-- ==== Sys2Proof/Word.lean ====
section
/-! DEFINITION. The widths the spec's registers and bus bytes have (00_scope.md R4, R6; 10_state.md R26).
Bit 0 is the least significant bit of every one of them. -/

namespace Sys2Proof

/-- `u3`: an OSR index or a PROM word index (R13, R46). -/
abbrev U3 := BitVec 3

/-- `u4`: a checksum nibble, a status code, the sequencer's step index (R13, R17, R21). -/
abbrev U4 := BitVec 4

/-- One byte as it crosses a bus: a host command word, a sensor command byte, a response byte (R52). -/
abbrev Byte := BitVec 8

/-- `u16`: a PROM word, a calibration coefficient, the checksum accumulator (R4, R15 to R17). -/
abbrev U16 := BitVec 16

/-- `s32`: the container of a raw 24-bit conversion (R18). -/
abbrev S32 := BitVec 32

/-- `s64`: a compensation intermediate or an integer output (R19, R20). -/
abbrev S64 := BitVec 64

/-- A 32-bit float output, as its binary32 bit pattern (R20, R84). -/
abbrev F32 := BitVec 32

end Sys2Proof
end

