-- ==== Sys2Proof/Syntax.lean ====
section
/-! DEFINITION. The instructions: the eight host command words (format HOST8) and the twenty sensor command
bytes (format BUS8) of spec/opcode_table.json, the fields their bytes are made of (30_encoding.md R44, R46),
and the names of the host-readable registers (10_state.md R26). No row of the table has an operand field, so
no constructor of `Instr` takes an argument. -/

namespace Sys2Proof

/-- One constructor per row of spec/opcode_table.json, in the table's order (R53, R54). -/
inductive Instr where
  /-- `INIT 0x77`, byte 0x10 (R92). -/
  | init77
  /-- `INIT 0x76`, byte 0x11 (R92). -/
  | init76
  /-- `RESET`, byte 0x20 (R93). -/
  | reset
  /-- `READ_SAMPLE OSR256`, byte 0x30 (R94). -/
  | readSampleOsr256
  /-- `READ_SAMPLE OSR512`, byte 0x32 (R94). -/
  | readSampleOsr512
  /-- `READ_SAMPLE OSR1024`, byte 0x34 (R94). -/
  | readSampleOsr1024
  /-- `READ_SAMPLE OSR2048`, byte 0x36 (R94). -/
  | readSampleOsr2048
  /-- `READ_SAMPLE OSR4096`, byte 0x38 (R94). -/
  | readSampleOsr4096
  /-- `CMD_RESET`, byte 0x1E (R96). -/
  | cmdReset
  /-- `CMD_CONV_D1.OSR256`, byte 0x40 (R97). -/
  | cmdConvD1Osr256
  /-- `CMD_CONV_D1.OSR512`, byte 0x42 (R97). -/
  | cmdConvD1Osr512
  /-- `CMD_CONV_D1.OSR1024`, byte 0x44 (R97). -/
  | cmdConvD1Osr1024
  /-- `CMD_CONV_D1.OSR2048`, byte 0x46 (R97). -/
  | cmdConvD1Osr2048
  /-- `CMD_CONV_D1.OSR4096`, byte 0x48 (R97). -/
  | cmdConvD1Osr4096
  /-- `CMD_CONV_D2.OSR256`, byte 0x50 (R98). -/
  | cmdConvD2Osr256
  /-- `CMD_CONV_D2.OSR512`, byte 0x52 (R98). -/
  | cmdConvD2Osr512
  /-- `CMD_CONV_D2.OSR1024`, byte 0x54 (R98). -/
  | cmdConvD2Osr1024
  /-- `CMD_CONV_D2.OSR2048`, byte 0x56 (R98). -/
  | cmdConvD2Osr2048
  /-- `CMD_CONV_D2.OSR4096`, byte 0x58 (R98). -/
  | cmdConvD2Osr4096
  /-- `CMD_ADC_READ`, byte 0x00 (R99). -/
  | cmdAdcRead
  /-- `CMD_PROM_READ.0`, byte 0xA0 (R100). -/
  | cmdPromRead0
  /-- `CMD_PROM_READ.1`, byte 0xA2 (R100). -/
  | cmdPromRead1
  /-- `CMD_PROM_READ.2`, byte 0xA4 (R100). -/
  | cmdPromRead2
  /-- `CMD_PROM_READ.3`, byte 0xA6 (R100). -/
  | cmdPromRead3
  /-- `CMD_PROM_READ.4`, byte 0xA8 (R100). -/
  | cmdPromRead4
  /-- `CMD_PROM_READ.5`, byte 0xAA (R100). -/
  | cmdPromRead5
  /-- `CMD_PROM_READ.6`, byte 0xAC (R100). -/
  | cmdPromRead6
  /-- `CMD_PROM_READ.7`, byte 0xAE (R100). -/
  | cmdPromRead7
deriving DecidableEq, Repr

/-- The three fields of a host command word: `OP` (bits 7:4), `ARG` (bits 3:1), `A0` (bit 0) (R44). -/
structure HostFields where
  op : U4
  arg : U3
  a0 : BitVec 1
deriving DecidableEq, Repr

/-- The three shapes of a sensor command byte (R46). -/
inductive BusFields where
  /-- `FIXED`: the whole byte. -/
  | fixed (byte : Byte)
  /-- `CONV`: bits 7:4 are 0100 for pressure and 0101 for temperature, bits 3:1 the OSR index, bit 0 is 0. -/
  | conv (temperature : Bool) (index : U3)
  /-- `PROM`: bits 7:4 are 1010, bits 3:1 the word index, bit 0 is 0. -/
  | prom (index : U3)
deriving DecidableEq, Repr

/-- The fields of an instruction's byte, in its own format. -/
inductive Fields where
  | host (f : HostFields)
  | bus (f : BusFields)
deriving DecidableEq, Repr

/-- The registers R26 marks host-readable. A register whose host access is "none" has no name here, so the host
has no move that reads it (R24). -/
inductive HostReg where
  | mode | busy | devAddr | c1 | c2 | c3 | c4 | c5 | c6 | crcComputed | crcStored
  | pOut | tOut | pMbar | tC | sampleValid | status | errInfo | errCmd
deriving DecidableEq, Repr

end Sys2Proof
end

