-- ==== Sys2Proof/Config.lean ====
section
/-! DEFINITION. What the spec leaves to the implementation or to another agent: the open parameters of
00_scope.md R5 (`TErr`, `RESET_DELAY_MS`, `FLOAT_CONV`, `HOST_REG_MAP`) and the free answers of the bus transport
(20_memory.md R38). The opaque constants have no body: nothing can be proved about a value of theirs. -/

namespace Sys2Proof

/-- FREE (R5, log entry 3). Which tokens beside 0 stand for values of `TErr`: the open type parameter. -/
opaque Config.isErrorToken : Nat → Bool

/-- `TErr`, the transport's error type, an open parameter (R5, R102): the tokens that `Config.isErrorToken` admits, and
the token 0, so that an `Err(e)` exists. Which other values there are is free, and that there is a second one is not
provable. The block never looks inside a value: it records the value verbatim. DESIGN CHOICE (log entry 3) in its form. -/
structure TErr where
  token : Nat
  legal : token = 0 ∨ Config.isErrorToken token = true
deriving DecidableEq, Repr

/-- What the transport answers to one transaction (R8, R34, R38): `Err(e)`, or `Ok` with the bytes that cross the
bus. A transaction that reads `n` bytes takes the first `n` of the three, first byte first, so every answer is a
legal answer to every transaction and an `Ok` never carries a wrong number of bytes. -/
inductive BusAnswer where
  | ok (b0 b1 b2 : Byte)
  | err (e : TErr)
deriving DecidableEq, Repr, Inhabited

/-- `FLOAT_CONV`, the open parameter of R84: the default the spec gives, or one of the other functions an
implementation may have. -/
inductive FloatConv where
  | standard
  | other (k : Nat)
deriving DecidableEq, Repr

/-- The open parameters of R5 that the machine reads. No step writes them. -/
structure Params where
  /-- `RESET_DELAY_MS`, 0 to 255, default 50. -/
  resetDelayMs : Byte
  /-- `FLOAT_CONV`, default the binary32 path of R84. -/
  floatConv : FloatConv
  /-- `HOST_REG_MAP`: which host-readable register each assigned offset names, default unassigned. -/
  hostRegMap : List (Nat × HostReg)
deriving DecidableEq, Repr

/-- The parameters at the defaults R5 gives. -/
def Params.default : Params where
  resetDelayMs := 50
  floatConv := .standard
  hostRegMap := []

/-- FREE VALUE (R38, log entry 2). The answer the transport gives to the `n`-th transaction beyond those that
`State.answers` lists. Every answer is possible. -/
opaque Config.transportAnswer : Nat → BusAnswer

/-- FREE VALUE (R84, log entry 4). The `k`-th function other than the default that an implementation may have
for `FLOAT_CONV`. -/
opaque Config.floatConvOther : Nat → S64 → F32

end Sys2Proof
end

