-- ==== Sys2Proof/WellFormed.lean ====
section
/-! DEFINITION. The checks of the spec on fields and register contents: which host and sensor field records are
encodings (30_encoding.md R44, R46, R55, R56) and which values the address, index and raw-conversion registers
may hold (10_state.md R13, R14, R18). Every constructor of `Instr` stands for one legal byte, so the checks are on
the records an instruction's byte is split into. -/

namespace Sys2Proof

/-- An OSR index names a level: 0 to 4 (R45). -/
def osrIndexWf (i : U3) : Bool := i.toNat ≤ 4

/-- The two legal values of `DEV_ADDR` (R14). -/
def devAddrWf (a : Byte) : Bool := a == 0x77 || a == 0x76

/-- A raw conversion: bits 31:24 are 0 (R18, R31). -/
def rawWf (d : S32) : Bool := d.toNat < 16777216

/-- A host command word's fields are one of the eight operations' (R44, R53, R55). -/
def HostFields.wf (f : HostFields) : Bool :=
  if f.op = 1 then f.arg == 0
  else if f.op = 2 then f.arg == 0 && f.a0 == 0
  else if f.op = 3 then osrIndexWf f.arg && f.a0 == 0
  else false

/-- A sensor command byte's fields are one of the twenty commands' (R46, R54, R56). -/
def BusFields.wf : BusFields → Bool
  | .fixed b => b == 0x1E || b == 0x00
  | .conv _ i => osrIndexWf i
  | .prom _ => true

/-- The check in the format the fields are in. -/
def Fields.wf : Fields → Bool
  | .host f => f.wf
  | .bus f => f.wf

end Sys2Proof
end

