-- ==== Sys2Proof/Machine/State.lean ====
section
/-! DEFINITION. The state of the machine as plain data. `Regs` holds every register 10_state.md gives the block (R26);
the other fields of `State` are the model's own: the open parameters, and the agents around the block (host, transport,
delay agent, platform reset) as the moves they still have and the events they have seen.

`none` in a register of an `Option` type is the spec's own content "no value" (R25: it "has a defined meaning"): the
value R26 and R118 give these registers at reset, and the value INIT and the end of an operation write back into some of
them (R92, R106, R107). See log entry 1. -/

namespace Sys2Proof.Machine

open Sys2Proof

/-- `MODE`, the lifecycle state (R11). -/
inductive Mode where
  | uninit | ready | failed
deriving DecidableEq, Repr

/-- `OP`, the operation in progress (R13). -/
inductive Op where
  | none | init | reset | readSample
deriving DecidableEq, Repr

/-- `STATUS`, the outcome of the last completed operation (R21, R101). The codes 0x6 to 0xF are never written. -/
inductive Status where
  | none | ok | errTransport | errChecksum | errNotReady | errIllegalCmd
deriving DecidableEq, Repr

/-- `CAL`, the six coefficients, written all at once (R15). -/
structure Calibration where
  c1 : U16
  c2 : U16
  c3 : U16
  c4 : U16
  c5 : U16
  c6 : U16
deriving DecidableEq, Repr

/-- The eight registers of the compensation datapath, written only by the compensation step, all of them by every one
(R19). -/
structure Datapath where
  dT : S64
  temp : S64
  off : S64
  sens : S64
  t2 : S64
  off2 : S64
  sens2 : S64
  pressure : S64
deriving DecidableEq, Repr

/-- The four sample output registers, written only together (R20). -/
structure Outputs where
  pOut : S64
  tOut : S64
  pMbar : F32
  tC : F32
deriving DecidableEq, Repr

/-- Every register of the block (R26). `OSR_ROM` is a constant (R22): `osrRom` in Machine/OsrRom.lean. -/
structure Regs where
  /-- `MODE` (R11). -/
  mode : Mode
  /-- `BUSY` (R12). -/
  busy : Bool
  /-- `OP` (R13). -/
  op : Op
  /-- `UPC`, the step index (R13). -/
  upc : U4
  /-- `OSRI`, the latched OSR index (R13). -/
  osri : Option U3
  /-- `DEV_ADDR` (R14). -/
  devAddr : Option Byte
  /-- `CAL`: `C1` to `C6` (R15). -/
  cal : Option Calibration
  /-- `W[0..7]`, the loader buffer (R16). -/
  w : Vector (Option U16) 8
  /-- `ACC` (R17). -/
  acc : Option U16
  /-- `CRC_COMPUTED` (R17). -/
  crcComputed : Option U4
  /-- `CRC_STORED` (R17). -/
  crcStored : Option U4
  /-- `D1`, the raw pressure (R18). -/
  d1 : Option S32
  /-- `D2`, the raw temperature (R18). -/
  d2 : Option S32
  /-- `dT`, `TEMP`, `OFF`, `SENS`, `T2`, `OFF2`, `SENS2`, `PRESSURE` (R19). -/
  datapath : Option Datapath
  /-- `P_OUT`, `T_OUT`, `P_MBAR`, `T_C` (R20). -/
  out : Option Outputs
  /-- `SAMPLE_VALID` (R20). -/
  sampleValid : Bool
  /-- `STATUS` (R21). -/
  status : Status
  /-- `ERR_INFO` (R21). -/
  errInfo : Option TErr
  /-- `ERR_CMD` (R21). -/
  errCmd : Option Byte
deriving DecidableEq, Repr

/-- The result of one transaction as the bus shows it (R47): `Ok` with exactly the bytes read, or `Err(e)`. -/
inductive BusResult where
  | ok (bytes : List Byte)
  | err (e : TErr)
deriving DecidableEq, Repr

/-- One event of the block (R40, R47). -/
inductive Event where
  /-- `W(a, c) -> r`. -/
  | write (addr cmd : Byte) (result : BusResult)
  /-- `WR(a, c, n) -> r`. -/
  | writeRead (addr cmd : Byte) (count : Nat) (result : BusResult)
  /-- `DLY(ms)`. -/
  | delay (ms : Byte)
deriving DecidableEq, Repr

/-- A move of the host (R24): issue a command word, read a register by name, or read the register at an offset of
`HOST_REG_MAP` (R28 (5)). -/
inductive HostMove where
  | issue (cmd : Byte)
  | read (r : HostReg)
  | readAt (offset : Nat)
deriving DecidableEq, Repr

/-- What a read of a host-readable register returns, at the register's width (R26). -/
inductive HostValue where
  | bit (v : BitVec 1)
  | bits2 (v : BitVec 2)
  | nibble (v : U4)
  | byte (v : Byte)
  | word (v : U16)
  | int64 (v : S64)
  | float32 (v : F32)
  | transportError (e : TErr)
deriving DecidableEq, Repr

/-- What the host receives from the block: the response that ends an operation (R12, R24 (c)), or a register's value. -/
inductive HostEvent where
  | response (status : Status)
  | value (r : HostReg) (v : HostValue)
deriving DecidableEq, Repr

/-- The whole machine: the block's registers, its open parameters, and the agents around it (R9) as plain data. -/
structure State where
  /-- The block's registers. -/
  regs : Regs
  /-- MODEL. The open parameters of R5; no step writes them. -/
  params : Params
  /-- MODEL. The reset input as the platform drives it, one sample a step, the next step's first; not asserted where
  the list ends (R118). -/
  resetLine : List Bool
  /-- MODEL. The host's moves still to come, the next one first (R24). -/
  hostMoves : List HostMove
  /-- MODEL. What the host has received, oldest first (R24). -/
  hostLog : List HostEvent
  /-- MODEL. The transport's answers to the transactions to come, the next one first (R38). -/
  answers : List BusAnswer
  /-- MODEL. How many answers have been drawn from `Config.transportAnswer`, which answers once `answers` is empty. -/
  draws : Nat
  /-- MODEL. The events of the block so far, oldest first (R40). -/
  trace : List Event
deriving DecidableEq, Repr

/-- The registers a `Fault.noValue` names. -/
inductive Reg where
  | osri | devAddr | cal | w | d1 | d2 | crcComputed | crcStored
  | pOut | tOut | pMbar | tC | errInfo | errCmd
deriving DecidableEq, Repr

/-- Why the machine stops with a fault. -/
inductive Fault where
  /-- A host read, or a core rule, reads a register that holds no value: "a fault of the model, never a value" (R25).
  Raised by `hostRead` and by the sequencer's reads of `OSRI`, `DEV_ADDR`, `W`, `D1`, `D2` and `CAL`; no state a run
  reaches from reset raises it but through a host read. Safe: nothing can be proved about a value. -/
  | noValue (r : Reg)
  /-- `OP` and `UPC` name no step of R89's lists. Raised by `currentAction`; no run from reset reaches it. Safe. -/
  | noSuchStep
  /-- `OSRI` holds 5, 6 or 7 at an OSR lookup, which "never reaches the lookup" (R60). Raised by `osrLookup`; no run
  from reset reaches it. Safe. -/
  | osrIndexOutOfRange
  /-- The sequencer's byte is none of the twenty sensor commands, which it never writes (R56). Raised by `fetch`; no
  run from reset reaches it. Safe. -/
  | notASensorCommand
  /-- A host read at an offset `HOST_REG_MAP` assigns to no register: no such address exists (R28 (5)). Raised by
  `hostReadAt`. Safe. -/
  | noHostRegister (offset : Nat)
deriving DecidableEq, Repr

/-- Why the machine refuses an instruction. -/
inductive Refusal where
  /-- The instruction has no meaning in this model yet: raised by `exec`'s refused arms alone. Safe. -/
  | notModelled (mnemonic : String)
  /-- A host operation while `BUSY = 1`, when the host "has no move" (R24 (c)). Raised by the host operations' meanings;
  `step` never gives one to `exec` then. Safe. -/
  | hostHasNoMove
  /-- A sensor command that is not the one the sequencer's current step emits: the host "cannot issue a sensor command
  directly" (R56, R89). Raised by the sensor commands' meanings; `step` never gives such a one to `exec`. Safe. -/
  | notEmittedHere
deriving DecidableEq, Repr

/-- The block's registers after the block reset (R26, R118): OSR_ROM aside, every element at the value of R26's table. -/
def Regs.reset : Regs where
  mode := .uninit
  busy := false
  op := .none
  upc := 0
  osri := none
  devAddr := none
  cal := none
  w := Vector.replicate 8 none
  acc := none
  crcComputed := none
  crcStored := none
  d1 := none
  d2 := none
  datapath := none
  out := none
  sampleValid := false
  status := .none
  errInfo := none
  errCmd := none

/-- The machine right after reset: the registers of R118, the parameters at their defaults, and an environment that has
done nothing and has nothing pending (log entries 2 and 6). -/
def State.reset : State where
  regs := Regs.reset
  params := Params.default
  resetLine := []
  hostMoves := []
  hostLog := []
  answers := []
  draws := 0
  trace := []

end Sys2Proof.Machine
end

