-- ==== Sys2Proof/Machine/Flags.lean ====
section
/-! DEFINITION. The status bits and codes as the host reads them. The block has no condition codes and no arithmetic
flags (10_state.md R23): its only status bits are `BUSY`, `SAMPLE_VALID`, `MODE` and `STATUS`. -/

namespace Sys2Proof.Machine

open Sys2Proof

/-- The 2-bit encoding of `MODE`; 11 is never held (R11). -/
def modeCode : Mode → BitVec 2
  | .uninit => 0b00
  | .ready => 0b01
  | .failed => 0b10

/-- The 4-bit code of `STATUS` (R101). -/
def statusCode : Status → U4
  | .none => 0x0
  | .ok => 0x1
  | .errTransport => 0x2
  | .errChecksum => 0x3
  | .errNotReady => 0x4
  | .errIllegalCmd => 0x5

/-- A one-bit register's value. -/
def bitOf (b : Bool) : BitVec 1 := if b then 1 else 0

end Sys2Proof.Machine
end

