-- ==== Sys2Proof/Machine/OsrRom.lean ====
section
/-! DEFINITION. The OSR ROM and its lookup (40_osr_rom.md). -/

namespace Sys2Proof.Machine

open Sys2Proof

/-- One entry of the ROM: the conversion wait in milliseconds and the command offset (R22). -/
structure OsrEntry where
  wait : Byte
  offset : Byte
deriving DecidableEq, Repr

/-- `OSR_ROM`: levels 256, 512, 1024, 2048, 4096 in this order (R59). -/
def osrRom : List OsrEntry :=
  [⟨1, 0⟩, ⟨2, 2⟩, ⟨3, 4⟩, ⟨5, 6⟩, ⟨10, 8⟩]

/-- `OSR_LOOKUP(i)`: both values of one entry, no computation (R60). -/
def osrEntry (i : U3) : Option OsrEntry := osrRom[i.toNat]?

/-- The sequencer's lookup of the latched `OSRI` (R60, R91). -/
def osrLookup (osri : Option U3) : Except Fault OsrEntry :=
  match osri with
  | none => .error (.noValue .osri)
  | some i =>
    match osrEntry i with
    | some e => .ok e
    | none => .error .osrIndexOutOfRange

end Sys2Proof.Machine
end

