-- ==== Sys2Proof/Machine/Operands.lean ====
section
/-! DEFINITION. Operand assembly: the bytes the sequencer writes and the values it builds from response bytes
(30_encoding.md R48 to R52; 20_memory.md R30, R31). -/

namespace Sys2Proof.Machine

open Sys2Proof

/-- `DEV_ADDR` from INIT's `A0` bit: 0 gives 0x77, 1 gives 0x76 (R50). -/
def addressOf (a0 : Bool) : Byte := if a0 then 0x76 else 0x77

/-- The sensor reset command (R36, R96). -/
def resetCommand : Byte := 0x1E

/-- The ADC result read command (R36, R99). -/
def adcReadCommand : Byte := 0x00

/-- The pressure conversion command of a ROM entry: 0x40 + offset (R48, R97). -/
def pressureCommand (e : OsrEntry) : Byte := 0x40 + e.offset

/-- The temperature conversion command of a ROM entry: 0x50 + offset (R48, R98). -/
def temperatureCommand (e : OsrEntry) : Byte := 0x50 + e.offset

/-- The PROM read command of word `k`: 0xA0 + 2k (R49, R100). -/
def promCommand (k : Nat) : Byte := 0xA0 + BitVec.ofNat 8 (2 * k)

/-- How many bytes a command's transaction reads, from its command byte alone (R34, R52). -/
def responseLength (c : Byte) : Nat :=
  if c = adcReadCommand then 3
  else if c.extractLsb' 4 4 = 0b1010 then 2
  else 0

/-- A PROM word from its two response bytes, high byte first (R30, R51). -/
def promWord (b0 b1 : Byte) : U16 := b0 ++ b1

/-- A raw conversion from its three response bytes, high byte first, bits 31:24 zero (R31, R51). -/
def rawValue (b0 b1 b2 : Byte) : S32 := (b0 ++ b1 ++ b2 : BitVec 24).setWidth 32

/-- Bits 15:8 of a word. -/
def hiByte (v : U16) : Byte := v.extractLsb' 8 8

/-- Bits 7:0 of a word. -/
def loByte (v : U16) : Byte := v.extractLsb' 0 8

/-- Bits 3:0 of a word. -/
def loNibble (v : U16) : U4 := v.extractLsb' 0 4

end Sys2Proof.Machine
end

