-- ==== Sys2Proof/Machine/Ops.lean ====
section
/-! DEFINITION. The shared operations: the two bus primitives and the delay (00_scope.md R8), the advance of the step
index (10_state.md R13), the end of an operation with an error (60_exceptions.md R106, the block's whole "trap") and
with success (R107), and the block reset (70_reset_and_hazards.md R118). -/

namespace Sys2Proof.Machine

open Sys2Proof

/-! ## Events and answers -/

/-- The result the bus shows for an answer to a transaction that reads `n` bytes: exactly `n` bytes, or the error with
none (R34, R47). -/
def busResult (n : Nat) : BusAnswer → BusResult
  | .ok b0 b1 b2 => .ok ([b0, b1, b2].take n)
  | .err e => .err e

/-- The transport's answer to the next transaction, a free draw (R38). -/
def nextAnswer (s : State) : BusAnswer :=
  match s.answers with
  | a :: _ => a
  | [] => Config.transportAnswer s.draws

/-- The transport after it has given `nextAnswer`. -/
def dropAnswer (s : State) : State :=
  match s.answers with
  | _ :: rest => { s with answers := rest }
  | [] => { s with draws := s.draws + 1 }

/-- Append one event to the total order of R40. -/
def emit (ev : Event) (s : State) : State := { s with trace := s.trace ++ [ev] }

/-- `BusWrite(a, [c])` (R8): the answer and the state after the event. -/
def busWrite (a c : Byte) (s : State) : BusAnswer × State :=
  (nextAnswer s, emit (.write a c (busResult 0 (nextAnswer s))) (dropAnswer s))

/-- `BusWriteRead(a, [c], n)` (R8): the answer and the state after the event. -/
def busWriteRead (a c : Byte) (n : Nat) (s : State) : BusAnswer × State :=
  (nextAnswer s, emit (.writeRead a c n (busResult n (nextAnswer s))) (dropAnswer s))

/-- `Delay(ms)` (R8, R39): an event that carries `ms` and always returns. -/
def delayFor (ms : Byte) (s : State) : State := emit (.delay ms) s

/-! ## Register updates -/

/-- Apply an update of the block's registers. -/
def onRegs (f : Regs → Regs) (s : State) : State := { s with regs := f s.regs }

/-- "next" of R89: `UPC <- UPC + 1`. -/
def advance (r : Regs) : Regs := { r with upc := r.upc + 1 }

/-- `W[k] <- v` (R100). -/
def putWord (k : Fin 8) (v : U16) (r : Regs) : Regs := { r with w := r.w.set k (some v) }

/-- The ADC value into `D1` at READ_SAMPLE step 2 and into `D2` at its step 5 (R89, R99). -/
def putRaw (v : S32) (r : Regs) : Regs :=
  if r.upc = 2 then { r with d1 := some v } else { r with d2 := some v }

/-- `MODE <- FAILED`, before INIT raises an error (R92, R102, R103). -/
def markFailed (r : Regs) : Regs := { r with mode := .failed }

/-! ## The end of an operation -/

/-- The error kinds (R101 to R105). -/
inductive ErrorKind where
  /-- TransportError(e), at the transaction of command byte `c`. -/
  | transport (e : TErr) (c : Byte)
  | checksum
  | notReady
  | illegalCommand
deriving DecidableEq, Repr

/-- `code(X)` (R101). -/
def errorStatus : ErrorKind → Status
  | .transport _ _ => .errTransport
  | .checksum => .errChecksum
  | .notReady => .errNotReady
  | .illegalCommand => .errIllegalCmd

/-- What `raise` leaves in `ERR_INFO`. -/
def errorInfo : ErrorKind → Option TErr
  | .transport e _ => some e
  | _ => none

/-- What `raise` leaves in `ERR_CMD`. -/
def errorCmd : ErrorKind → Option Byte
  | .transport _ c => some c
  | _ => none

/-- `raise X(args)` on the registers (R106). -/
def raiseRegs (k : ErrorKind) (r : Regs) : Regs :=
  { r with status := errorStatus k, errInfo := errorInfo k, errCmd := errorCmd k,
           op := .none, upc := 0, busy := false }

/-- `done(OK)` on the registers (R107). -/
def doneRegs (r : Regs) : Regs :=
  { r with status := .ok, errInfo := none, errCmd := none, op := .none, upc := 0, busy := false }

/-- The host receives something from the block. -/
def tellHost (ev : HostEvent) (s : State) : State := { s with hostLog := s.hostLog ++ [ev] }

/-- TAKING AN ERROR, the block's whole trap: the operation ends with error `k` and the response reaches the host
(R106). -/
def raise (k : ErrorKind) (s : State) : State :=
  tellHost (.response (errorStatus k)) (onRegs (raiseRegs k) s)

/-- The operation ends with success and the response reaches the host (R107). The block has no other return: after
either end it is idle (R110). -/
def doneOk (s : State) : State :=
  tellHost (.response .ok) (onRegs doneRegs s)

/-! ## Block reset -/

/-- The reset input is asserted: every register takes its reset value, the operation in progress is abandoned without a
response, and no event is made (R118, R119). -/
def blockReset (s : State) : State := { s with regs := Regs.reset }

end Sys2Proof.Machine
end

