-- ==== Sys2Proof/Machine/Float32.lean ====
section
/-! DEFINITION. `FLOAT_CONV`, from a scaled integer to a 32-bit float (42_compensation.md R84). The default is the
binary32 path `RNE32(RNE32(x) / 100.0)`: IEEE 754 binary32, round to nearest, ties to even. PRESUMED (log entry 4): the
spec takes binary32 from general knowledge. -/

namespace Sys2Proof.Machine

open Sys2Proof

/-- The natural number nearest to `num / den`, ties to the even one (`den > 0`). -/
def roundNearestEven (num den : Nat) : Nat :=
  let q := num / den
  let r := num % den
  if 2 * r < den then q
  else if den < 2 * r then q + 1
  else q + q % 2

/-- The exponent `E` with `2^E ≤ num / den < 2^(E+1)`, for `num` and `den` not 0. -/
def floorLog2 (num den : Nat) : Int :=
  let e : Int := (num.log2 : Int) - (den.log2 : Int)
  if den * 2 ^ e.toNat ≤ num * 2 ^ (-e).toNat then e else e - 1

/-- `RNE32`: the binary32 pattern nearest to `num / den`, with the sign given; `den` is not 0. The significand is
rounded at the last place of its binade (of the subnormals below 2^-126), and a value that rounds past the largest
finite number is the infinity. -/
def rne32 (negative : Bool) (num den : Nat) : F32 :=
  let sign : Nat := if negative then 2 ^ 31 else 0
  if num = 0 then BitVec.ofNat 32 sign
  else
    let e : Int := max (floorLog2 num den) (-126)
    let ulp : Int := e - 23
    let m := roundNearestEven (num * 2 ^ (-ulp).toNat) (den * 2 ^ ulp.toNat)
    let bits := (e + 126).toNat * 2 ^ 23 + m
    BitVec.ofNat 32 (sign + min bits 0x7F800000)

/-- The magnitude of a finite binary32 pattern, as a numerator over 2^149. -/
def magnitude32 (f : F32) : Nat :=
  let e := (f.extractLsb' 23 8).toNat
  let m := (f.extractLsb' 0 23).toNat
  if e = 0 then m else (m + 2 ^ 23) * 2 ^ (e - 1)

/-- `RNE32(x)` of an integer. -/
def intToFloat (x : Int) : F32 := rne32 (x < 0) x.natAbs 1

/-- `f` divided by 100.0 in binary32. -/
def divHundred (f : F32) : F32 := rne32 (f.getLsbD 31) (magnitude32 f) (100 * 2 ^ 149)

/-- `FLOAT_CONV`, at the parameter's value (R5, R84). -/
def floatConv (p : Params) (x : S64) : F32 :=
  match p.floatConv with
  | .standard => divHundred (intToFloat x.toInt)
  | .other k => Config.floatConvOther k x

end Sys2Proof.Machine
end

