-- ==== Sys2Proof/Machine/Compensation.lean ====
section
/-! DEFINITION. The compensation engine (42_compensation.md). The formulas are exact arithmetic on integers (00_scope.md
R7), where `>>` is the floor shift (R86); the results are narrowed once, into the s64 registers (R85). -/

namespace Sys2Proof.Machine

open Sys2Proof

/-- `a >> n`: the arithmetic shift `floor(a / 2^n)`, toward minus infinity (R7, R86). -/
def shr (a : Int) (n : Nat) : Int := a / 2 ^ n

/-- Step 1: `dT <- D2 - (C5 << 8)` (R75). -/
def compDT (d2 : Int) (c : Calibration) : Int := d2 - (c.c5.toNat : Int) * 2 ^ 8

/-- Step 2: `TEMP0 <- 2000 + ((dT * C6) >> 23)` (R76). -/
def compTemp0 (dT : Int) (c : Calibration) : Int := 2000 + shr (dT * (c.c6.toNat : Int)) 23

/-- Step 3, before the correction: `OFF <- (C2 << 16) + ((dT * C4) >> 7)` (R77). -/
def compOff (dT : Int) (c : Calibration) : Int := (c.c2.toNat : Int) * 2 ^ 16 + shr (dT * (c.c4.toNat : Int)) 7

/-- Step 4, before the correction: `SENS <- (C1 << 15) + ((dT * C3) >> 8)` (R78). -/
def compSens (dT : Int) (c : Calibration) : Int := (c.c1.toNat : Int) * 2 ^ 15 + shr (dT * (c.c3.toNat : Int)) 8

/-- Step 5's corrections. -/
structure Correction where
  t2 : Int
  off2 : Int
  sens2 : Int
deriving DecidableEq, Repr

/-- The first branch, below 20.00 degrees (R79); `SENS2` comes from this `OFF2`. -/
def lowCorrection (dT temp0 : Int) : Correction :=
  let off2 := shr (5 * ((temp0 - 2000) * (temp0 - 2000))) 1
  { t2 := shr (dT * dT) 31, off2 := off2, sens2 := shr off2 1 }

/-- The second branch, below -15.00 degrees, added to the first (R80). -/
def veryLowCorrection (temp0 : Int) (k : Correction) : Correction :=
  { k with off2 := k.off2 + 7 * ((temp0 + 1500) * (temp0 + 1500))
           sens2 := k.sens2 + shr (11 * ((temp0 + 1500) * (temp0 + 1500))) 1 }

/-- Step 5: the branches decide on `TEMP0` (R79 to R81). -/
def correction (dT temp0 : Int) : Correction :=
  if temp0 < 2000 then
    if temp0 < -1500 then veryLowCorrection temp0 (lowCorrection dT temp0) else lowCorrection dT temp0
  else { t2 := 0, off2 := 0, sens2 := 0 }

/-- Step 7: `PRESSURE <- (((D1 * SENS) >> 21) - OFF) >> 15` (R83). -/
def compPressure (d1 sens off : Int) : Int := shr (shr (d1 * sens) 21 - off) 15

/-- The exact values of one compensation, with the corrections of step 6 applied (R82). -/
structure Compensated where
  dT : Int
  temp0 : Int
  temp : Int
  off : Int
  sens : Int
  t2 : Int
  off2 : Int
  sens2 : Int
  pressure : Int
deriving DecidableEq, Repr

/-- `COMPENSATE`, steps 1 to 7 in order (R74 to R83). -/
def compensate (d1 d2 : Int) (c : Calibration) : Compensated :=
  let dT := compDT d2 c
  let temp0 := compTemp0 dT c
  let k := correction dT temp0
  let temp := temp0 - k.t2
  let off := compOff dT c - k.off2
  let sens := compSens dT c - k.sens2
  { dT := dT, temp0 := temp0, temp := temp, off := off, sens := sens,
    t2 := k.t2, off2 := k.off2, sens2 := k.sens2, pressure := compPressure d1 sens off }

/-- The eight s64 registers after the step (R19). -/
def datapathOf (v : Compensated) : Datapath where
  dT := BitVec.ofInt 64 v.dT
  temp := BitVec.ofInt 64 v.temp
  off := BitVec.ofInt 64 v.off
  sens := BitVec.ofInt 64 v.sens
  t2 := BitVec.ofInt 64 v.t2
  off2 := BitVec.ofInt 64 v.off2
  sens2 := BitVec.ofInt 64 v.sens2
  pressure := BitVec.ofInt 64 v.pressure

/-- Step 8: the sample outputs, from the datapath's `PRESSURE` and `TEMP` (R84). -/
def outputsOf (p : Params) (d : Datapath) : Outputs where
  pOut := d.pressure
  tOut := d.temp
  pMbar := floatConv p d.pressure
  tC := floatConv p d.temp

/-- The compensation step's writes: the datapath, the four outputs and `SAMPLE_VALID` together (R84, R94). -/
def putSample (p : Params) (v : Compensated) (r : Regs) : Regs :=
  { r with datapath := some (datapathOf v), out := some (outputsOf p (datapathOf v)), sampleValid := true }

/-- `COMPENSATE` as READ_SAMPLE step 6: no event, and it never fails (R74, R87, R94). -/
def compensateStep (s : State) : Host.Outcome State Fault Refusal :=
  match s.regs.d1, s.regs.d2, s.regs.cal with
  | some d1, some d2, some c =>
    .next (doneOk (onRegs (putSample s.params (compensate d1.toInt d2.toInt c)) s))
  | none, _, _ => .fault (.noValue .d1)
  | some _, none, _ => .fault (.noValue .d2)
  | some _, some _, none => .fault (.noValue .cal)

/-! ## The two's-complement reading

R85 says that exact integers and s64 arithmetic give the same result. This is the s64 datapath as hardware would build
it, every operation on 64-bit words; that it equals `compensate` is a statement, not a definition. -/

/-- Step 5 on 64-bit words: `T2`, `OFF2`, `SENS2`. -/
def correction64 (dT temp0 : S64) : S64 × S64 × S64 :=
  let low := temp0 - 2000
  let veryLow := temp0 + 1500
  if temp0.slt 2000 then
    let off2 := (5 * (low * low)).sshiftRight 1
    if temp0.slt (-1500) then
      ((dT * dT).sshiftRight 31, off2 + 7 * (veryLow * veryLow),
        off2.sshiftRight 1 + (11 * (veryLow * veryLow)).sshiftRight 1)
    else ((dT * dT).sshiftRight 31, off2, off2.sshiftRight 1)
  else (0, 0, 0)

/-- Steps 1 to 7 on 64-bit words. -/
def compensate64 (d1 d2 : S32) (c : Calibration) : Datapath :=
  let dT := d2.signExtend 64 - c.c5.setWidth 64 <<< 8
  let temp0 := 2000 + (dT * c.c6.setWidth 64).sshiftRight 23
  let k := correction64 dT temp0
  let off := c.c2.setWidth 64 <<< 16 + (dT * c.c4.setWidth 64).sshiftRight 7 - k.2.1
  let sens := c.c1.setWidth 64 <<< 15 + (dT * c.c3.setWidth 64).sshiftRight 8 - k.2.2
  { dT := dT, temp := temp0 - k.1, off := off, sens := sens, t2 := k.1, off2 := k.2.1, sens2 := k.2.2,
    pressure := ((d1.signExtend 64 * sens).sshiftRight 21 - off).sshiftRight 15 }

end Sys2Proof.Machine
end

