-- ==== Sys2Proof/Machine/Crc.lean ====
section
/-! DEFINITION. The CRC validator and the accepting step of INIT (41_crc_validator.md). -/

namespace Sys2Proof.Machine

open Sys2Proof

/-- Eight PROM words, all read. -/
abbrev PromWords := Vector U16 8

/-- One bit step (R66): shift left, and XOR 0x3000 if the top bit was set. -/
def crcBit (acc : U16) : U16 :=
  if acc.getLsbD 15 then (acc <<< 1) ^^^ 0x3000 else acc <<< 1

/-- `n` bit steps. -/
def crcBits : Nat → U16 → U16
  | 0, acc => acc
  | n + 1, acc => crcBits n (crcBit acc)

/-- One byte of the stream: XOR it in, then eight bit steps (R65). -/
def crcByte (acc : U16) (b : Byte) : U16 := crcBits 8 (acc ^^^ b.setWidth 16)

/-- The sixteen bytes `S[0..15]` (R63): words 0 to 6 high byte first, the high byte of word 7, and a zero byte. -/
def crcStream (w : PromWords) : List Byte :=
  [hiByte w[0], loByte w[0], hiByte w[1], loByte w[1], hiByte w[2], loByte w[2], hiByte w[3], loByte w[3],
   hiByte w[4], loByte w[4], hiByte w[5], loByte w[5], hiByte w[6], loByte w[6], hiByte w[7], 0x00]

/-- The accumulator after the whole stream, from 0 (R64, R65). -/
def crcAcc (w : PromWords) : U16 := (crcStream w).foldl crcByte 0x0000

/-- `CRC4(W)`: bits 15:12 of the accumulator (R67, R71). -/
def crc4 (w : PromWords) : U4 := (crcAcc w).extractLsb' 12 4

/-- The stored nibble: bits 3:0 of word 7 (R68). -/
def storedNibble (w : PromWords) : U4 := loNibble w[7]

/-- Words 1 to 6, unchanged and in order, as the coefficients (R70). -/
def calibrationOf (w : PromWords) : Calibration := ⟨w[1], w[2], w[3], w[4], w[5], w[6]⟩

/-- The loader buffer's words, when all eight hold a value. -/
def promWords (w : Vector (Option U16) 8) : Option PromWords :=
  match w[0], w[1], w[2], w[3], w[4], w[5], w[6], w[7] with
  | some a, some b, some c, some d, some e, some f, some g, some h => some #v[a, b, c, d, e, f, g, h]
  | _, _, _, _, _, _, _, _ => none

/-- The check's record: `CRC_COMPUTED` and `CRC_STORED`, on match and on mismatch alike. `ACC` holds a value only during
the check, which is one step (R17, R72). -/
def recordCheck (w : PromWords) (r : Regs) : Regs :=
  { r with acc := none, crcComputed := some (crc4 w), crcStored := some (storedNibble w) }

/-- The loader buffer without words 0 and 7, which an accepted INIT keeps in no register (R70). -/
def dropOuterWords (w : Vector (Option U16) 8) : Vector (Option U16) 8 := (w.set 0 none).set 7 none

/-- The accepting step: all six coefficients at once, then `MODE <- READY`; `W[0]` and `W[7]` do not outlive INIT (R70; log
entry 18). -/
def acceptCalibration (w : PromWords) (r : Regs) : Regs :=
  { r with cal := some (calibrationOf w), mode := .ready, w := dropOuterWords r.w }

/-- `CRC_CHECK`, INIT step 8 (R72): no event; either the calibration is accepted or the checksum error is raised. -/
def crcCheck (s : State) : Host.Outcome State Fault Refusal :=
  match promWords s.regs.w with
  | none => .fault (.noValue .w)
  | some w =>
    if crc4 w = storedNibble w then
      .next (doneOk (onRegs (fun r => acceptCalibration w (recordCheck w r)) s))
    else
      .next (raise .checksum (onRegs (fun r => markFailed (recordCheck w r)) s))

end Sys2Proof.Machine
end

