-- ==== Sys2Proof/Machine/Sequencer.lean ====
section
/-! DEFINITION. The sequencer's fixed step lists (43_sequencer.md R89) and the two shared operations every instruction's
meaning is made of: accepting a host operation (R88) and emitting the sensor command of the current step (R96 to
R100). -/

namespace Sys2Proof.Machine

open Sys2Proof

/-- The action of one step of R89's lists. -/
inductive Action where
  /-- A bus event with this sensor command byte. -/
  | bus (c : Byte)
  /-- `DLY(ms)`. -/
  | delay (ms : Byte)
  | crcCheck
  | compensate
deriving DecidableEq, Repr

/-- The action `OP` and `UPC` name (R89). The conversion commands and waits come from one lookup of the latched `OSRI`
(R91). -/
def currentAction (p : Params) (r : Regs) : Except Fault Action :=
  match r.op, r.upc.toNat with
  | .init, 8 => .ok .crcCheck
  | .init, n => if n < 8 then .ok (.bus (promCommand n)) else .error .noSuchStep
  | .reset, 0 => .ok (.bus resetCommand)
  | .reset, 1 => .ok (.delay p.resetDelayMs)
  | .readSample, 0 => (osrLookup r.osri).map fun e => .bus (pressureCommand e)
  | .readSample, 1 => (osrLookup r.osri).map fun e => .delay e.wait
  | .readSample, 2 => .ok (.bus adcReadCommand)
  | .readSample, 3 => (osrLookup r.osri).map fun e => .bus (temperatureCommand e)
  | .readSample, 4 => (osrLookup r.osri).map fun e => .delay e.wait
  | .readSample, 5 => .ok (.bus adcReadCommand)
  | .readSample, 6 => .ok .compensate
  | _, _ => .error .noSuchStep

/-- The sequencer is at the step that emits the command byte `c`. -/
def emits (c : Byte) (s : State) : Bool :=
  match currentAction s.params s.regs with
  | .ok (.bus c') => s.regs.busy && c' == c
  | _ => false

/-! ## Accepting a host operation -/

/-- The registers when INIT is accepted: R88's writes and the opening of R92, before the first PROM read. -/
def startInit (a0 : Bool) (r : Regs) : Regs :=
  { r with busy := true, op := .init, upc := 0, devAddr := some (addressOf a0), mode := .uninit, cal := none,
           sampleValid := false }

/-- The registers when RESET is accepted (R88). -/
def startReset (r : Regs) : Regs := { r with busy := true, op := .reset, upc := 0 }

/-- The registers when READ_SAMPLE is accepted: R88's writes and the opening of R94. -/
def startReadSample (i : U3) (r : Regs) : Regs :=
  { r with busy := true, op := .readSample, upc := 0, osri := some i, sampleValid := false }

/-- INIT is accepted in every mode (R88); the host has a move only while `BUSY = 0` (R24). -/
def acceptInit (a0 : Bool) (s : State) : Host.Outcome State Fault Refusal :=
  if s.regs.busy then .refused .hostHasNoMove else .next (onRegs (startInit a0) s)

/-- RESET and READ_SAMPLE are accepted in `READY` and end at once with NotReady in the other modes (R88, R104). -/
def acceptWhenReady (start : Regs → Regs) (s : State) : Host.Outcome State Fault Refusal :=
  if s.regs.busy then .refused .hostHasNoMove
  else if s.regs.mode = .ready then .next (onRegs start s)
  else .next (raise .notReady s)

/-- A reserved host word ends at once with IllegalCommand (R55, R88, R105). -/
def refuseIllegal (s : State) : State := raise .illegalCommand s

/-! ## Emitting a sensor command -/

/-- The step that emits the command byte `c`, with `body` its transaction on the current `DEV_ADDR` (R89). -/
def emitCommand (c : Byte) (body : Byte → State → State) (s : State) : Host.Outcome State Fault Refusal :=
  if emits c s then
    match s.regs.devAddr with
    | some a => .next (body a s)
    | none => .fault (.noValue .devAddr)
  else .refused .notEmittedHere

/-- A `W` event: next step on `Ok`, TransportError on `Err(e)` (R90, R96 to R98). -/
def writeCommand (c a : Byte) (s : State) : State :=
  match busWrite a c s with
  | (.ok _ _ _, t) => onRegs advance t
  | (.err e, t) => raise (.transport e c) t

/-- The ADC read: three bytes into `D1` or `D2` and the next step, or TransportError (R90, R99). -/
def adcRead (a : Byte) (s : State) : State :=
  match busWriteRead a adcReadCommand 3 s with
  | (.ok b0 b1 b2, t) => onRegs (fun r => advance (putRaw (rawValue b0 b1 b2) r)) t
  | (.err e, t) => raise (.transport e adcReadCommand) t

/-- The read of PROM word `k`: two bytes into `W[k]` and the next step, or `MODE <- FAILED` and TransportError (R90,
R100). -/
def promRead (k : Fin 8) (a : Byte) (s : State) : State :=
  match busWriteRead a (promCommand k) 2 s with
  | (.ok b0 b1 _, t) => onRegs (fun r => advance (putWord k (promWord b0 b1) r)) t
  | (.err e, t) => raise (.transport e (promCommand k)) (onRegs markFailed t)

/-- A `DLY(ms)` step: the event, then the next step; the last step of RESET ends the operation (R39, R89, R93). -/
def delayStep (ms : Byte) (s : State) : State :=
  if s.regs.op = .reset then doneOk (delayFor ms s) else onRegs advance (delayFor ms s)

end Sys2Proof.Machine
end

