-- ==== Sys2Proof/Machine/HostCommands.lean ====
section
/-! DEFINITION. The meanings of the eight host operations at acceptance (43_sequencer.md R88, R92 to R94; 30_encoding.md
R53). The steps an accepted operation then runs are the sequencer's (R89), one for each `Sys2Proof.Machine.step`. -/

namespace Sys2Proof.Machine

open Sys2Proof

/-- `INIT 0x77`: `A0 = 0` (R50, R92). -/
def execInit77 (s : State) : Host.Outcome State Fault Refusal := acceptInit false s

/-- `INIT 0x76`: `A0 = 1` (R50, R92). -/
def execInit76 (s : State) : Host.Outcome State Fault Refusal := acceptInit true s

/-- `RESET` (R93). -/
def execReset (s : State) : Host.Outcome State Fault Refusal := acceptWhenReady startReset s

/-- `READ_SAMPLE OSR256`: index 0 (R45, R94). -/
def execReadSampleOsr256 (s : State) : Host.Outcome State Fault Refusal := acceptWhenReady (startReadSample 0) s

/-- `READ_SAMPLE OSR512`: index 1 (R45, R94). -/
def execReadSampleOsr512 (s : State) : Host.Outcome State Fault Refusal := acceptWhenReady (startReadSample 1) s

/-- `READ_SAMPLE OSR1024`: index 2 (R45, R94). -/
def execReadSampleOsr1024 (s : State) : Host.Outcome State Fault Refusal := acceptWhenReady (startReadSample 2) s

/-- `READ_SAMPLE OSR2048`: index 3 (R45, R94). -/
def execReadSampleOsr2048 (s : State) : Host.Outcome State Fault Refusal := acceptWhenReady (startReadSample 3) s

/-- `READ_SAMPLE OSR4096`: index 4 (R45, R94). -/
def execReadSampleOsr4096 (s : State) : Host.Outcome State Fault Refusal := acceptWhenReady (startReadSample 4) s

end Sys2Proof.Machine
end

