-- ==== Sys2Proof/Machine/SensorCommands.lean ====
section
/-! DEFINITION. The meanings of the twenty sensor commands (43_sequencer.md R96 to R100; 30_encoding.md R54): the bus
event on `DEV_ADDR`, its result in the block's registers, and the error it may raise. -/

namespace Sys2Proof.Machine

open Sys2Proof

/-- `CMD_RESET` (R96). -/
def execCmdReset (s : State) : Host.Outcome State Fault Refusal := emitCommand 0x1E (writeCommand 0x1E) s

/-- `CMD_CONV_D1.OSR256` (R97). -/
def execCmdConvD1Osr256 (s : State) : Host.Outcome State Fault Refusal := emitCommand 0x40 (writeCommand 0x40) s

/-- `CMD_CONV_D1.OSR512` (R97). -/
def execCmdConvD1Osr512 (s : State) : Host.Outcome State Fault Refusal := emitCommand 0x42 (writeCommand 0x42) s

/-- `CMD_CONV_D1.OSR1024` (R97). -/
def execCmdConvD1Osr1024 (s : State) : Host.Outcome State Fault Refusal := emitCommand 0x44 (writeCommand 0x44) s

/-- `CMD_CONV_D1.OSR2048` (R97). -/
def execCmdConvD1Osr2048 (s : State) : Host.Outcome State Fault Refusal := emitCommand 0x46 (writeCommand 0x46) s

/-- `CMD_CONV_D1.OSR4096` (R97). -/
def execCmdConvD1Osr4096 (s : State) : Host.Outcome State Fault Refusal := emitCommand 0x48 (writeCommand 0x48) s

/-- `CMD_CONV_D2.OSR256` (R98). -/
def execCmdConvD2Osr256 (s : State) : Host.Outcome State Fault Refusal := emitCommand 0x50 (writeCommand 0x50) s

/-- `CMD_CONV_D2.OSR512` (R98). -/
def execCmdConvD2Osr512 (s : State) : Host.Outcome State Fault Refusal := emitCommand 0x52 (writeCommand 0x52) s

/-- `CMD_CONV_D2.OSR1024` (R98). -/
def execCmdConvD2Osr1024 (s : State) : Host.Outcome State Fault Refusal := emitCommand 0x54 (writeCommand 0x54) s

/-- `CMD_CONV_D2.OSR2048` (R98). -/
def execCmdConvD2Osr2048 (s : State) : Host.Outcome State Fault Refusal := emitCommand 0x56 (writeCommand 0x56) s

/-- `CMD_CONV_D2.OSR4096` (R98). -/
def execCmdConvD2Osr4096 (s : State) : Host.Outcome State Fault Refusal := emitCommand 0x58 (writeCommand 0x58) s

/-- `CMD_ADC_READ` (R99). -/
def execCmdAdcRead (s : State) : Host.Outcome State Fault Refusal := emitCommand 0x00 adcRead s

/-- `CMD_PROM_READ.0` (R100). -/
def execCmdPromRead0 (s : State) : Host.Outcome State Fault Refusal := emitCommand 0xA0 (promRead 0) s

/-- `CMD_PROM_READ.1` (R100). -/
def execCmdPromRead1 (s : State) : Host.Outcome State Fault Refusal := emitCommand 0xA2 (promRead 1) s

/-- `CMD_PROM_READ.2` (R100). -/
def execCmdPromRead2 (s : State) : Host.Outcome State Fault Refusal := emitCommand 0xA4 (promRead 2) s

/-- `CMD_PROM_READ.3` (R100). -/
def execCmdPromRead3 (s : State) : Host.Outcome State Fault Refusal := emitCommand 0xA6 (promRead 3) s

/-- `CMD_PROM_READ.4` (R100). -/
def execCmdPromRead4 (s : State) : Host.Outcome State Fault Refusal := emitCommand 0xA8 (promRead 4) s

/-- `CMD_PROM_READ.5` (R100). -/
def execCmdPromRead5 (s : State) : Host.Outcome State Fault Refusal := emitCommand 0xAA (promRead 5) s

/-- `CMD_PROM_READ.6` (R100). -/
def execCmdPromRead6 (s : State) : Host.Outcome State Fault Refusal := emitCommand 0xAC (promRead 6) s

/-- `CMD_PROM_READ.7` (R100). -/
def execCmdPromRead7 (s : State) : Host.Outcome State Fault Refusal := emitCommand 0xAE (promRead 7) s

end Sys2Proof.Machine
end

