-- ==== Sys2Proof/Machine/Dispatch.lean ====
section
/-! DEFINITION. One arm per constructor of `Instr`: its meaning. -/

namespace Sys2Proof.Machine

open Sys2Proof

def exec (i : Instr) (s : State) : Host.Outcome State Fault Refusal :=
  match i with
  | .init77 => Sys2Proof.Machine.execInit77 s
  | .init76 => Sys2Proof.Machine.execInit76 s
  | .reset => Sys2Proof.Machine.execReset s
  | .readSampleOsr256 => Sys2Proof.Machine.execReadSampleOsr256 s
  | .readSampleOsr512 => Sys2Proof.Machine.execReadSampleOsr512 s
  | .readSampleOsr1024 => Sys2Proof.Machine.execReadSampleOsr1024 s
  | .readSampleOsr2048 => Sys2Proof.Machine.execReadSampleOsr2048 s
  | .readSampleOsr4096 => Sys2Proof.Machine.execReadSampleOsr4096 s
  | .cmdReset => Sys2Proof.Machine.execCmdReset s
  | .cmdConvD1Osr256 => Sys2Proof.Machine.execCmdConvD1Osr256 s
  | .cmdConvD1Osr512 => Sys2Proof.Machine.execCmdConvD1Osr512 s
  | .cmdConvD1Osr1024 => Sys2Proof.Machine.execCmdConvD1Osr1024 s
  | .cmdConvD1Osr2048 => Sys2Proof.Machine.execCmdConvD1Osr2048 s
  | .cmdConvD1Osr4096 => Sys2Proof.Machine.execCmdConvD1Osr4096 s
  | .cmdConvD2Osr256 => Sys2Proof.Machine.execCmdConvD2Osr256 s
  | .cmdConvD2Osr512 => Sys2Proof.Machine.execCmdConvD2Osr512 s
  | .cmdConvD2Osr1024 => Sys2Proof.Machine.execCmdConvD2Osr1024 s
  | .cmdConvD2Osr2048 => Sys2Proof.Machine.execCmdConvD2Osr2048 s
  | .cmdConvD2Osr4096 => Sys2Proof.Machine.execCmdConvD2Osr4096 s
  | .cmdAdcRead => Sys2Proof.Machine.execCmdAdcRead s
  | .cmdPromRead0 => Sys2Proof.Machine.execCmdPromRead0 s
  | .cmdPromRead1 => Sys2Proof.Machine.execCmdPromRead1 s
  | .cmdPromRead2 => Sys2Proof.Machine.execCmdPromRead2 s
  | .cmdPromRead3 => Sys2Proof.Machine.execCmdPromRead3 s
  | .cmdPromRead4 => Sys2Proof.Machine.execCmdPromRead4 s
  | .cmdPromRead5 => Sys2Proof.Machine.execCmdPromRead5 s
  | .cmdPromRead6 => Sys2Proof.Machine.execCmdPromRead6 s
  | .cmdPromRead7 => Sys2Proof.Machine.execCmdPromRead7 s

end Sys2Proof.Machine
end

