-- ==== Sys2Proof/Decode.lean ====
section
/-! DEFINITION. The decoder of host command words and of sensor command bytes, total on every byte, and the encoder
(30_encoding.md R44 to R46, R53 to R56). The two formats are separate opcode maps that share no byte: the block
decodes what the host issues by `decodeHost` alone, and names what its sequencer emits by `decodeBus` alone. -/

namespace Sys2Proof

/-- Why a byte is no instruction. -/
inductive Reject where
  /-- A host word whose `OP` is outside 1 to 3 (R55). -/
  | reservedOp
  /-- An INIT or RESET word whose `ARG` is not 000 (R44, R55). -/
  | argMustBeZero
  /-- A RESET or READ_SAMPLE word whose `A0` is 1 (R44, R55). -/
  | a0MustBeZero
  /-- A READ_SAMPLE word whose OSR index is 5, 6 or 7 (R45, R55). -/
  | reservedOsrIndex
  /-- A byte outside the sensor command map (R56). -/
  | notASensorCommand
deriving DecidableEq, Repr

/-- The fields of a host command word (R44). -/
def splitHost (b : Byte) : HostFields where
  op := b.extractLsb' 4 4
  arg := b.extractLsb' 1 3
  a0 := b.extractLsb' 0 1

/-- The host command word of the fields (R44). -/
def joinHost (f : HostFields) : Byte := f.op ++ f.arg ++ f.a0

/-- The sensor command byte of the fields (R46). -/
def joinBus : BusFields → Byte
  | .fixed b => b
  | .conv false i => (0b0100 : U4) ++ i ++ (0 : BitVec 1)
  | .conv true i => (0b0101 : U4) ++ i ++ (0 : BitVec 1)
  | .prom k => (0b1010 : U4) ++ k ++ (0 : BitVec 1)

/-- The fields of a byte as a sensor command, in the first of R46's shapes that has its bits. -/
def splitBus (b : Byte) : Option BusFields :=
  let hi := b.extractLsb' 4 4
  let index := b.extractLsb' 1 3
  if b = 0x1E ∨ b = 0x00 then some (.fixed b)
  else if b.getLsbD 0 then none
  else if hi = 0b0100 then some (.conv false index)
  else if hi = 0b0101 then some (.conv true index)
  else if hi = 0b1010 then some (.prom index)
  else none

/-- The READ_SAMPLE operation at an OSR index (R45). -/
def readSampleAt (i : U3) : Except Reject Instr :=
  match i.toNat with
  | 0 => .ok .readSampleOsr256
  | 1 => .ok .readSampleOsr512
  | 2 => .ok .readSampleOsr1024
  | 3 => .ok .readSampleOsr2048
  | 4 => .ok .readSampleOsr4096
  | _ => .error .reservedOsrIndex

/-- The conversion command at an OSR index, pressure or temperature (R46, R54). -/
def convAt (temperature : Bool) (i : U3) : Except Reject Instr :=
  match temperature, i.toNat with
  | false, 0 => .ok .cmdConvD1Osr256
  | false, 1 => .ok .cmdConvD1Osr512
  | false, 2 => .ok .cmdConvD1Osr1024
  | false, 3 => .ok .cmdConvD1Osr2048
  | false, 4 => .ok .cmdConvD1Osr4096
  | true, 0 => .ok .cmdConvD2Osr256
  | true, 1 => .ok .cmdConvD2Osr512
  | true, 2 => .ok .cmdConvD2Osr1024
  | true, 3 => .ok .cmdConvD2Osr2048
  | true, 4 => .ok .cmdConvD2Osr4096
  | _, _ => .error .notASensorCommand

/-- The PROM read of a word index (R49, R54). -/
def promAt (k : U3) : Instr :=
  match k.toNat with
  | 0 => .cmdPromRead0
  | 1 => .cmdPromRead1
  | 2 => .cmdPromRead2
  | 3 => .cmdPromRead3
  | 4 => .cmdPromRead4
  | 5 => .cmdPromRead5
  | 6 => .cmdPromRead6
  | _ => .cmdPromRead7

/-- The operation a host command word asks for, or why it is reserved (R44, R53, R55). -/
def decodeHost (b : Byte) : Except Reject Instr :=
  let f := splitHost b
  if f.op = 1 then
    if f.arg ≠ 0 then .error .argMustBeZero
    else if f.a0 = 0 then .ok .init77 else .ok .init76
  else if f.op = 2 then
    if f.arg ≠ 0 then .error .argMustBeZero
    else if f.a0 ≠ 0 then .error .a0MustBeZero
    else .ok .reset
  else if f.op = 3 then
    if f.a0 ≠ 0 then .error .a0MustBeZero
    else readSampleAt f.arg
  else .error .reservedOp

/-- The sensor command a bus byte is (R46, R54, R56). -/
def decodeBus (b : Byte) : Except Reject Instr :=
  match splitBus b with
  | some (.fixed c) => if c = 0x1E then .ok .cmdReset else .ok .cmdAdcRead
  | some (.conv t i) => convAt t i
  | some (.prom k) => .ok (promAt k)
  | none => .error .notASensorCommand

/-- The instruction of a byte of either format, for the opcode table, which lists both. -/
def decode (b : Byte) : Except Reject Instr :=
  match decodeHost b with
  | .ok i => .ok i
  | .error r =>
    match decodeBus b with
    | .ok i => .ok i
    | .error _ => .error r

/-- The fields of an instruction's byte (R44, R46, R53, R54). -/
def fieldsOf : Instr → Fields
  | .init77 => .host ⟨1, 0, 0⟩
  | .init76 => .host ⟨1, 0, 1⟩
  | .reset => .host ⟨2, 0, 0⟩
  | .readSampleOsr256 => .host ⟨3, 0, 0⟩
  | .readSampleOsr512 => .host ⟨3, 1, 0⟩
  | .readSampleOsr1024 => .host ⟨3, 2, 0⟩
  | .readSampleOsr2048 => .host ⟨3, 3, 0⟩
  | .readSampleOsr4096 => .host ⟨3, 4, 0⟩
  | .cmdReset => .bus (.fixed 0x1E)
  | .cmdConvD1Osr256 => .bus (.conv false 0)
  | .cmdConvD1Osr512 => .bus (.conv false 1)
  | .cmdConvD1Osr1024 => .bus (.conv false 2)
  | .cmdConvD1Osr2048 => .bus (.conv false 3)
  | .cmdConvD1Osr4096 => .bus (.conv false 4)
  | .cmdConvD2Osr256 => .bus (.conv true 0)
  | .cmdConvD2Osr512 => .bus (.conv true 1)
  | .cmdConvD2Osr1024 => .bus (.conv true 2)
  | .cmdConvD2Osr2048 => .bus (.conv true 3)
  | .cmdConvD2Osr4096 => .bus (.conv true 4)
  | .cmdAdcRead => .bus (.fixed 0x00)
  | .cmdPromRead0 => .bus (.prom 0)
  | .cmdPromRead1 => .bus (.prom 1)
  | .cmdPromRead2 => .bus (.prom 2)
  | .cmdPromRead3 => .bus (.prom 3)
  | .cmdPromRead4 => .bus (.prom 4)
  | .cmdPromRead5 => .bus (.prom 5)
  | .cmdPromRead6 => .bus (.prom 6)
  | .cmdPromRead7 => .bus (.prom 7)

/-- The byte of an instruction, written from its fields. -/
def encode (i : Instr) : Byte :=
  match fieldsOf i with
  | .host f => joinHost f
  | .bus f => joinBus f

/-- The instruction the decoder reads from a row of spec/opcode_table.json: every row is one byte. -/
def decodeTableWord (nbits w : Nat) : Option Instr :=
  if nbits = 8 ∧ w < 256 then
    match decode (BitVec.ofNat 8 w) with
    | .ok i => some i
    | .error _ => none
  else none

end Sys2Proof
end

