-- ==== Sys2Proof/Machine/HostPort.lean ====
section
/-! DEFINITION. The host's reads of the block's registers, allowed only while `BUSY = 0` (10_state.md R24 to R26). A
register with a condition on its access holds no value for the host while the condition fails: reading it is a fault of
the model (R15, R20, R21, R25). -/

namespace Sys2Proof.Machine

open Sys2Proof

/-- A register's content, if it holds a value. -/
def valued {α : Type} (r : Reg) (v : Option α) (f : α → HostValue) : Except Fault HostValue :=
  match v with
  | some x => .ok (f x)
  | none => .error (.noValue r)

/-- A register readable only under a condition (R26). -/
def valuedWhen {α : Type} (c : Bool) (r : Reg) (v : Option α) (f : α → HostValue) : Except Fault HostValue :=
  if c then valued r v f else .error (.noValue r)

/-- A coefficient, readable when `MODE = READY` (R15). -/
def readCoefficient (f : Calibration → U16) (r : Regs) : Except Fault HostValue :=
  valuedWhen (r.mode == .ready) .cal r.cal fun c => .word (f c)

/-- The value of a host-readable register (R26). -/
def readReg (h : HostReg) (r : Regs) : Except Fault HostValue :=
  match h with
  | .mode => .ok (.bits2 (modeCode r.mode))
  | .busy => .ok (.bit (bitOf r.busy))
  | .devAddr => valued .devAddr r.devAddr .byte
  | .c1 => readCoefficient (·.c1) r
  | .c2 => readCoefficient (·.c2) r
  | .c3 => readCoefficient (·.c3) r
  | .c4 => readCoefficient (·.c4) r
  | .c5 => readCoefficient (·.c5) r
  | .c6 => readCoefficient (·.c6) r
  | .crcComputed => valued .crcComputed r.crcComputed .nibble
  | .crcStored => valued .crcStored r.crcStored .nibble
  | .pOut => valuedWhen r.sampleValid .pOut r.out fun o => .int64 o.pOut
  | .tOut => valuedWhen r.sampleValid .tOut r.out fun o => .int64 o.tOut
  | .pMbar => valuedWhen r.sampleValid .pMbar r.out fun o => .float32 o.pMbar
  | .tC => valuedWhen r.sampleValid .tC r.out fun o => .float32 o.tC
  | .sampleValid => .ok (.bit (bitOf r.sampleValid))
  | .status => .ok (.nibble (statusCode r.status))
  | .errInfo => valuedWhen (r.status == .errTransport) .errInfo r.errInfo .transportError
  | .errCmd => valuedWhen (r.status == .errTransport) .errCmd r.errCmd .byte

/-- The host's read of a register by name: the value goes to the host, and no register changes (R24 (b)). -/
def hostRead (h : HostReg) (s : State) : Host.Outcome State Fault Refusal :=
  match readReg h s.regs with
  | .ok v => .next (tellHost (.value h v) s)
  | .error f => .fault f

/-- The register an offset names in `HOST_REG_MAP`, if the parameter assigns it (R5, R28 (5)). -/
def registerAt (p : Params) (offset : Nat) : Option HostReg :=
  (p.hostRegMap.find? fun entry => entry.1 == offset).map (·.2)

/-- The host's read at an offset of `HOST_REG_MAP` (R24, R28 (5)). -/
def hostReadAt (offset : Nat) (s : State) : Host.Outcome State Fault Refusal :=
  match registerAt s.params offset with
  | some h => hostRead h s
  | none => .fault (.noHostRegister offset)

end Sys2Proof.Machine
end

