-- ==== Sys2Proof/Machine/Fetch.lean ====
section
/-! DEFINITION. What the machine does next: which byte it takes as its next instruction, or which step without an
instruction it makes. While `BUSY = 0` the next instruction is the host's next command word (10_state.md R24, 43_sequencer.md
R88); while `BUSY = 1` it is the sensor command of the sequencer's current step (R89). -/

namespace Sys2Proof.Machine

open Sys2Proof

/-- What the next step is. -/
inductive Fetched where
  /-- Run this instruction on this state. -/
  | run (i : Instr) (s : State)
  /-- The step runs no instruction and ends so. -/
  | ends (o : Host.Outcome State Fault Refusal)

/-- The reset input's sample at this step, and the state without it (R118). -/
def sampleReset (s : State) : Bool × State :=
  match s.resetLine with
  | asserted :: rest => (asserted, { s with resetLine := rest })
  | [] => (false, s)

/-- The next step of a busy block (R89). -/
def fetchBusy (s : State) : Fetched :=
  match currentAction s.params s.regs with
  | .ok (.bus c) =>
    match decodeBus c with
    | .ok i => .run i s
    | .error _ => .ends (.fault .notASensorCommand)
  | .ok (.delay ms) => .ends (.next (delayStep ms s))
  | .ok .crcCheck => .ends (crcCheck s)
  | .ok .compensate => .ends (compensateStep s)
  | .error f => .ends (.fault f)

/-- The next step of an idle block: the host's next move, or none (R24, R117). -/
def fetchIdle (s : State) : Fetched :=
  match s.hostMoves with
  | [] => .ends (.next s)
  | .issue b :: rest =>
    match decodeHost b with
    | .ok i => .run i { s with hostMoves := rest }
    | .error _ => .ends (.next (refuseIllegal { s with hostMoves := rest }))
  | .read h :: rest => .ends (hostRead h { s with hostMoves := rest })
  | .readAt offset :: rest => .ends (hostReadAt offset { s with hostMoves := rest })

/-- The next step of the block once the reset input has been sampled. -/
def fetch (s : State) : Fetched := if s.regs.busy then fetchBusy s else fetchIdle s

/-! ## Placing an instruction where it is fetched -/

/-- The reset input is not asserted at the next step. -/
def releaseReset (s : State) : State :=
  match s.resetLine with
  | true :: rest => { s with resetLine := false :: rest }
  | _ => s

/-- The block is idle and the host's next move issues the byte. -/
def placeHostWord (b : Byte) (s : State) : State :=
  { s with regs := { s.regs with busy := false, op := .none, upc := 0 }, hostMoves := .issue b :: s.hostMoves }

/-- The sequencer is at step `n` of `op`, with a device address to send to. -/
def placeAt (op : Op) (n : U4) (s : State) : State :=
  { s with regs := { s.regs with busy := true, op := op, upc := n,
                                 devAddr := some (s.regs.devAddr.getD (addressOf false)) } }

/-- `placeAt` with the OSR index latched. -/
def placeRead (n : U4) (i : U3) (s : State) : State :=
  onRegs (fun r => { r with osri := some i }) (placeAt .readSample n s)

/-- The sequencer is at the step that emits the sensor command (R89, R96 to R100). An ADC read stays at READ_SAMPLE step
5 if it is there, and is placed at step 2 otherwise. -/
def placeSensorCommand (f : BusFields) (s : State) : State :=
  match f with
  | .fixed c =>
    if c = resetCommand then placeAt .reset 0 s
    else placeAt .readSample (if s.regs.op = .readSample ∧ s.regs.upc = 5 then 5 else 2) s
  | .conv false i => placeRead 0 i s
  | .conv true i => placeRead 3 i s
  | .prom k => placeAt .init (k.setWidth 4) s

/-- The byte, placed where the machine takes its next instruction. -/
def placeByte (b : Byte) (s : State) : State :=
  match decodeHost b, decodeBus b, splitBus b with
  | .error _, .ok _, some f => placeSensorCommand f (releaseReset s)
  | _, _, _ => placeHostWord b (releaseReset s)

end Sys2Proof.Machine
end

