-- ==== Sys2Proof/Machine/Step.lean ====
section
/-! DEFINITION. One step of the machine: the reset input is sampled; if it is asserted the block is reset
(70_reset_and_hazards.md R118), otherwise the block makes its next step (10_state.md R9, 20_memory.md R40). -/

namespace Sys2Proof.Machine

open Sys2Proof

/-- One step of the block, the reset input aside. -/
def coreStep (s : State) : Host.Outcome State Fault Refusal :=
  match fetch s with
  | .run i t => exec i t
  | .ends o => o

/-- One step of the machine. -/
def step (s : State) : Host.Outcome State Fault Refusal :=
  match sampleReset s with
  | (true, t) => .next (blockReset t)
  | (false, t) => coreStep t

/-- `s` with the table word `w` placed so that the very next step takes it as its instruction: a host command word as
the host's next move, a sensor command at the sequencer's step that emits it (log entry 7). -/
def State.withFetchWord (s : State) (nbits w : Nat) : State :=
  placeByte (BitVec.ofNat 8 (w % 2 ^ nbits)) s

end Sys2Proof.Machine
end

