-- ==== Sys2Proof/Safety.lean ====
section
/-! DEFINITION. What counts as a safe state and a safe run, in the terms the statements use: the invariant of the
registers (10_state.md), the lifecycle relation (43_sequencer.md R95), the conversion hazards on the event order
(70_reset_and_hazards.md R121, R122), the bounds on an operation (R128), and rounding to nearest (42_compensation.md R84). -/

namespace Sys2Proof.Machine

open Sys2Proof

/-- `CAL` is what the words of the last INIT gave, those words passed the checksum, and words 0 and 7 are gone: what
`READY` stands for (R11, R15, R70). -/
def Calibrated (r : Regs) : Prop :=
  ∃ w : PromWords, r.w = dropOuterWords (w.map some) ∧ crc4 w = storedNibble w ∧ r.cal = some (calibrationOf w) ∧
    r.crcComputed = some (crc4 w) ∧ r.crcStored = some (storedNibble w)

/-- The registers a run from the block reset can reach meet this. -/
structure RegsInv (r : Regs) : Prop where
  /-- `READY` only with a calibration that passed the checksum (R11). -/
  ready : r.mode = .ready → Calibrated r
  /-- `CAL` holds values exactly when `MODE = READY` (R15). -/
  noCal : r.mode ≠ .ready → r.cal = none
  /-- Idle is `BUSY = 0`, `OP = NONE`, `UPC = 0` (R12, R13, R110). -/
  idle : r.busy = false → r.op = .none ∧ r.upc = 0
  /-- A busy block runs an operation (R12, R13). -/
  running : r.busy = true → r.op ≠ .none
  /-- `DEV_ADDR` is 0x77 or 0x76 (R14). -/
  address : ∀ a, r.devAddr = some a → devAddrWf a = true
  /-- `DEV_ADDR` holds a value once an INIT has been accepted (R14, R92). -/
  addressed : r.busy = true ∨ r.mode ≠ .uninit → r.devAddr ≠ none
  /-- `OSRI` names a level (R13, R45). -/
  index : ∀ i, r.osri = some i → osrIndexWf i = true
  /-- `D1` and `D2` have bits 31:24 equal to 0 (R18). -/
  raw : ∀ d, r.d1 = some d ∨ r.d2 = some d → rawWf d = true
  /-- INIT runs in `UNINIT` at steps 0 to 8, with the words before the step read (R89, R92). -/
  initStep : r.op = .init → r.mode = .uninit ∧ r.upc.toNat ≤ 8 ∧ ∀ k : Fin 8, k.val < r.upc.toNat → r.w[k] ≠ none
  /-- RESET runs in `READY` at steps 0 and 1 (R88, R89). -/
  resetStep : r.op = .reset → r.mode = .ready ∧ r.upc.toNat ≤ 1
  /-- READ_SAMPLE runs in `READY` at steps 0 to 6, with what its steps so far have read and no valid sample (R88, R89,
  R94). -/
  readStep : r.op = .readSample → r.mode = .ready ∧ r.upc.toNat ≤ 6 ∧ r.osri ≠ none ∧ r.sampleValid = false ∧
    (2 < r.upc.toNat → r.d1 ≠ none) ∧ (5 < r.upc.toNat → r.d2 ≠ none)
  /-- A valid sample has its four values, on a `READY` block (R20, R92). -/
  sample : r.sampleValid = true → r.out ≠ none ∧ r.mode = .ready
  /-- `ERR_INFO` holds a value exactly after `ERR_TRANSPORT` (R21). -/
  errInfo : r.errInfo ≠ none ↔ r.status = .errTransport
  /-- `ERR_CMD` holds a value exactly after `ERR_TRANSPORT` (R21). -/
  errCmd : r.errCmd ≠ none ↔ r.status = .errTransport
  /-- `ERR_CMD` is one of the twenty sensor commands (R21, R54). -/
  errCmdByte : ∀ c, r.errCmd = some c → ∃ i, decodeBus c = .ok i
  /-- `ACC` holds a value only during INIT's check step (R17). -/
  acc : r.acc = none

/-- The reset input is asserted at the next step. -/
def resetAsserted (s : State) : Prop := s.resetLine.head? = some true

/-- The next step accepts an INIT. -/
def acceptsInit (s : State) : Prop :=
  s.regs.busy = false ∧ (s.hostMoves.head? = some (.issue 0x10) ∨ s.hostMoves.head? = some (.issue 0x11))

/-- The step from `s` to `t` follows the `MODE` transition relation (R95): the block reset and an accepted INIT give
`UNINIT`; INIT's check gives `READY` or `FAILED`; an INIT that ends at a PROM step gives `FAILED`; nothing else changes
`MODE`. -/
def FollowsLifecycle (s t : State) : Prop :=
  (resetAsserted s → t.regs.mode = .uninit) ∧
  (¬ resetAsserted s → acceptsInit s → t.regs.mode = .uninit) ∧
  (¬ resetAsserted s → s.regs.busy = true → s.regs.op = .init → s.regs.upc = 8 →
    (t.regs.mode = .ready ∧ t.regs.status = .ok) ∨ (t.regs.mode = .failed ∧ t.regs.status = .errChecksum)) ∧
  (¬ resetAsserted s → s.regs.busy = true → s.regs.op = .init → s.regs.upc ≠ 8 →
    (t.regs.mode = .uninit ∧ t.regs.busy = true) ∨ (t.regs.mode = .failed ∧ t.regs.status = .errTransport)) ∧
  (¬ resetAsserted s → ¬ acceptsInit s → ¬ (s.regs.busy = true ∧ s.regs.op = .init) → t.regs.mode = s.regs.mode)

/-- Every ADC read in the trace comes right after a delay of the wait of an OSR level, which comes right after a
conversion command of the same level that the same address took (R121). -/
def ReadsDelayed (tr : List Event) : Prop :=
  ∀ before a n r after, tr = before ++ .writeRead a adcReadCommand n r :: after →
    ∃ earlier e c, e ∈ osrRom ∧ (c = pressureCommand e ∨ c = temperatureCommand e) ∧
      before = earlier ++ [.write a c (.ok []), .delay e.wait]

/-- The trace ends with the conversion command of the entry, taken by the address, and then these events. -/
def EndsAfterConversion (tr : List Event) (a c : Byte) (rest : List Event) : Prop :=
  ∃ earlier, tr = earlier ++ .write a c (.ok []) :: rest

/-- Every temperature conversion command in the trace comes right after an ADC read that gave the same address's pressure
value, its three bytes: no conversion command goes out while the pressure conversion of the same READ_SAMPLE is unread
(R122). -/
def TemperatureAfterRead (tr : List Event) : Prop :=
  ∀ before a e r after, e ∈ osrRom → tr = before ++ .write a (temperatureCommand e) r :: after →
    ∃ earlier b0 b1 b2, before = earlier ++ [.writeRead a adcReadCommand 3 (.ok [b0, b1, b2])]

/-- The trace ends with the conversion command of the entry, its delay, and the ADC read that gave `d` (R121, R122). -/
def EndsAfterRead (tr : List Event) (a c : Byte) (e : OsrEntry) (d : Option S32) : Prop :=
  ∃ b0 b1 b2, d = some (rawValue b0 b1 b2) ∧
    EndsAfterConversion tr a c [.delay e.wait, .writeRead a adcReadCommand 3 (.ok [b0, b1, b2])]

/-- The hazards R121 and R122 are held off: the ADC reads so far were delayed, the pressure conversions were read before a
temperature command, and a READ_SAMPLE has made the events that must come before its next one. -/
structure HazardInv (s : State) : Prop where
  reads : ReadsDelayed s.trace
  unread : TemperatureAfterRead s.trace
  /-- Steps 1 to 3: the pressure command is out, at step 2 its delay as well, and at step 3 the conversion is read. -/
  pressure : s.regs.busy = true → s.regs.op = .readSample → ∀ i e a, s.regs.osri = some i → osrEntry i = some e →
    s.regs.devAddr = some a →
      (s.regs.upc = 1 → EndsAfterConversion s.trace a (pressureCommand e) []) ∧
      (s.regs.upc = 2 → EndsAfterConversion s.trace a (pressureCommand e) [.delay e.wait]) ∧
      (s.regs.upc = 3 → EndsAfterRead s.trace a (pressureCommand e) e s.regs.d1)
  /-- Steps 4 to 6: the temperature command is out, at step 5 its delay as well, and at step 6 the conversion is read. -/
  temperature : s.regs.busy = true → s.regs.op = .readSample → ∀ i e a, s.regs.osri = some i → osrEntry i = some e →
    s.regs.devAddr = some a →
      (s.regs.upc = 4 → EndsAfterConversion s.trace a (temperatureCommand e) []) ∧
      (s.regs.upc = 5 → EndsAfterConversion s.trace a (temperatureCommand e) [.delay e.wait]) ∧
      (s.regs.upc = 6 → EndsAfterRead s.trace a (temperatureCommand e) e s.regs.d2)

/-- The most events an operation makes (R128). -/
def maxEvents : Op → Nat
  | .none => 0
  | .init => 8
  | .reset => 2
  | .readSample => 6

/-- An event the block may make with its device address at `a`: a transaction of one of the twenty sensor commands,
addressed to `a` and of the command's length, or a delay (R28, R47, R52, R54). -/
def EventAllowed (a : Byte) : Event → Prop
  | .write b c _ => b = a ∧ (∃ i, decodeBus c = .ok i) ∧ responseLength c = 0
  | .writeRead b c n r => b = a ∧ (∃ i, decodeBus c = .ok i) ∧ n = responseLength c ∧ 0 < n ∧
      ∀ bytes, r = .ok bytes → bytes.length = n
  | .delay _ => True

/-- How far the magnitude of a finite pattern is from `num / den`, in units of `2^-149 / den`. -/
def floatDistance (f : F32) (num den : Nat) : Nat := ((magnitude32 f * den : Int) - (num * 2 ^ 149 : Int)).natAbs

/-- A pattern that stands for a finite number. -/
def finite32 (f : F32) : Prop := f.extractLsb' 23 8 ≠ 0xFF

/-- `f` is `num / den` with the sign given, rounded to the nearest binary32 number, ties to the even one (R84): finite, with
the sign's bit, no finite number nearer, and with the last bit clear where another is as near. -/
def NearestEven (f : F32) (negative : Bool) (num den : Nat) : Prop :=
  finite32 f ∧ f.getLsbD 31 = negative ∧
  ∀ g : F32, finite32 g → floatDistance f num den ≤ floatDistance g num den ∧
    (floatDistance g num den = floatDistance f num den → magnitude32 g ≠ magnitude32 f → f.getLsbD 0 = false)

/-- The state with the registers that only the host reads made equal: the outcome record, the checksum record and the
sample outputs (R17, R20, R21). -/
def hideRecords (s : State) : State :=
  onRegs (fun r => { r with status := .none, errInfo := none, errCmd := none, crcComputed := none, crcStored := none,
                            datapath := none, out := none, sampleValid := false }) s

/-- The next step is no read of the host. -/
def noHostRead (s : State) : Prop :=
  s.regs.busy = true ∨ ∀ m, s.hostMoves.head? = some m → ∃ b, m = .issue b

end Sys2Proof.Machine
end

