-- ==== Sys2Proof/Certificates/Slice0/Obligations.lean ====
section
/-! DEFINITION. The statements for the provers. Each says what a numbered rule of spec/ says of the machine; where a
statement rests on a choice of the model, its docstring names the log entry. -/

open Sys2Proof Sys2Proof.Machine

/-! ## Encodings -/

/-- R53: the eight host command words. -/
def Obligations.HostWordTable : Prop :=
  decodeHost 0x10 = .ok .init77 ∧ decodeHost 0x11 = .ok .init76 ∧ decodeHost 0x20 = .ok .reset ∧
  decodeHost 0x30 = .ok .readSampleOsr256 ∧ decodeHost 0x32 = .ok .readSampleOsr512 ∧
  decodeHost 0x34 = .ok .readSampleOsr1024 ∧ decodeHost 0x36 = .ok .readSampleOsr2048 ∧
  decodeHost 0x38 = .ok .readSampleOsr4096

/-- R54: the twenty sensor command bytes, with the length of each one's response; no other byte is one (R56). -/
def Obligations.SensorCommandTable : Prop :=
  (decodeBus 0x1E = .ok .cmdReset ∧ responseLength 0x1E = 0) ∧
  (decodeBus 0x40 = .ok .cmdConvD1Osr256 ∧ decodeBus 0x42 = .ok .cmdConvD1Osr512 ∧
    decodeBus 0x44 = .ok .cmdConvD1Osr1024 ∧ decodeBus 0x46 = .ok .cmdConvD1Osr2048 ∧
    decodeBus 0x48 = .ok .cmdConvD1Osr4096) ∧
  (decodeBus 0x50 = .ok .cmdConvD2Osr256 ∧ decodeBus 0x52 = .ok .cmdConvD2Osr512 ∧
    decodeBus 0x54 = .ok .cmdConvD2Osr1024 ∧ decodeBus 0x56 = .ok .cmdConvD2Osr2048 ∧
    decodeBus 0x58 = .ok .cmdConvD2Osr4096) ∧
  (∀ c ∈ [0x40, 0x42, 0x44, 0x46, 0x48, 0x50, 0x52, 0x54, 0x56, 0x58], responseLength c = 0) ∧
  (decodeBus 0x00 = .ok .cmdAdcRead ∧ responseLength 0x00 = 3) ∧
  (decodeBus 0xA0 = .ok .cmdPromRead0 ∧ decodeBus 0xA2 = .ok .cmdPromRead1 ∧ decodeBus 0xA4 = .ok .cmdPromRead2 ∧
    decodeBus 0xA6 = .ok .cmdPromRead3 ∧ decodeBus 0xA8 = .ok .cmdPromRead4 ∧ decodeBus 0xAA = .ok .cmdPromRead5 ∧
    decodeBus 0xAC = .ok .cmdPromRead6 ∧ decodeBus 0xAE = .ok .cmdPromRead7) ∧
  (∀ c ∈ [0xA0, 0xA2, 0xA4, 0xA6, 0xA8, 0xAA, 0xAC, 0xAE], responseLength c = 2) ∧
  ∀ c : Byte, (∃ i, decodeBus c = .ok i) → c ∈ [0x1E, 0x40, 0x42, 0x44, 0x46, 0x48, 0x50, 0x52, 0x54, 0x56, 0x58, 0x00,
    0xA0, 0xA2, 0xA4, 0xA6, 0xA8, 0xAA, 0xAC, 0xAE]

/-- Decode and encode agree in both directions, over every instruction and every byte (R44, R46). -/
def Obligations.DecodeEncodeAgree : Prop :=
  (∀ i : Instr, decode (encode i) = .ok i ∧ decodeTableWord 8 (encode i).toNat = some i) ∧
  ∀ (b : Byte) (i : Instr), decode b = .ok i → encode i = b

/-- R30 and R31: response bytes are assembled high byte first, and a raw conversion has bits 31:24 zero. -/
def Obligations.ResponseByteOrder : Prop :=
  (∀ b0 b1 : Byte, (promWord b0 b1).toNat = b0.toNat * 256 + b1.toNat ∧ hiByte (promWord b0 b1) = b0 ∧
    loByte (promWord b0 b1) = b1) ∧
  ∀ b0 b1 b2 : Byte, (rawValue b0 b1 b2).toNat = b0.toNat * 65536 + b1.toNat * 256 + b2.toNat ∧
    (rawValue b0 b1 b2).toNat ≤ 16777215 ∧ (rawValue b0 b1 b2).extractLsb' 24 8 = 0

/-! ## The step -/

/-- A step runs the decoded instruction: on an idle block the host's next word, which it takes out of the host's moves;
on a busy block the sensor command of the sequencer's current step. It also takes one sample of the reset input (the
model's environment, log entries 5 and 6). -/
def Obligations.StepRunsDecodedInstruction : Prop :=
  (∀ (s : State) (b : Byte) (later : List HostMove) (i : Instr), s.resetLine.head? ≠ some true →
    s.regs.busy = false → s.hostMoves = .issue b :: later → decodeHost b = .ok i →
    step s = exec i { s with hostMoves := later, resetLine := s.resetLine.tail }) ∧
  ∀ (s : State) (c : Byte) (i : Instr), s.resetLine.head? ≠ some true → s.regs.busy = true →
    currentAction s.params s.regs = .ok (.bus c) → decodeBus c = .ok i →
    step s = exec i { s with resetLine := s.resetLine.tail }

/-- R55, R105: each of the 248 reserved words ends at once with `ERR_ILLEGAL_CMD` in every mode: no event, and no
register but `STATUS`, `ERR_INFO`, `ERR_CMD` and the idle step state (`OP`, `UPC`, `BUSY`, R106) is written. -/
def Obligations.ReservedWordRefused : Prop :=
  ((List.range 256).filter fun n =>
    match decodeHost (BitVec.ofNat 8 n) with | .ok _ => false | .error _ => true).length = 248 ∧
  ∀ (s : State) (b : Byte) (later : List HostMove), s.resetLine.head? ≠ some true → s.regs.busy = false →
    s.hostMoves = .issue b :: later → b ∉ ([0x10, 0x11, 0x20, 0x30, 0x32, 0x34, 0x36, 0x38] : List Byte) →
    step s = .next { s with
      regs := { s.regs with status := .errIllegalCmd, errInfo := none, errCmd := none, op := .none, upc := 0,
                            busy := false }
      resetLine := s.resetLine.tail
      hostMoves := later
      hostLog := s.hostLog ++ [.response .errIllegalCmd] }

/-- R118, R119: when the reset input is asserted, in any state, every register takes the value of R26's table, the
operation in progress gives no response, and no event is made. -/
def Obligations.BlockResetStep : Prop :=
  ∀ (s : State) (later : List Bool), s.resetLine = true :: later →
    step s = .next { s with
      regs := { mode := .uninit, busy := false, op := .none, upc := 0, osri := none, devAddr := none, cal := none,
                w := Vector.replicate 8 none, acc := none, crcComputed := none, crcStored := none, d1 := none,
                d2 := none, datapath := none, out := none, sampleValid := false, status := .none, errInfo := none,
                errCmd := none }
      resetLine := later }

/-- R117: an idle block whose host has no move keeps all its state. -/
def Obligations.IdleKeepsState : Prop :=
  ∀ s : State, s.resetLine.head? ≠ some true → s.regs.busy = false → s.hostMoves = [] →
    step s = .next { s with resetLine := s.resetLine.tail }

/-- R24, R25, R26: a read of an idle block gives the host the register's value and changes nothing else; a register that
holds no value, or whose access condition fails (`C1` to `C6` out of `READY`, the outputs without a valid sample,
`ERR_INFO` and `ERR_CMD` without `ERR_TRANSPORT`), is a fault and gives no value. A read at an offset (R28 (5)) is the read
of the register the first entry of `HOST_REG_MAP` for that offset names, and the fault `noHostRegister` where no entry has
the offset: the map's form and that fault are the model's choice (log entry 12). -/
def Obligations.HostReads : Prop :=
  (∀ (s : State) (offset : Nat) (h : HostReg) (first rest : List (Nat × HostReg)) (later : List HostMove),
    s.resetLine.head? ≠ some true → s.regs.busy = false → s.hostMoves = .readAt offset :: later →
    s.params.hostRegMap = first ++ (offset, h) :: rest → (∀ entry ∈ first, entry.1 ≠ offset) →
    step s = step { s with hostMoves := .read h :: later }) ∧
  (∀ (s : State) (offset : Nat) (later : List HostMove),
    s.resetLine.head? ≠ some true → s.regs.busy = false → s.hostMoves = .readAt offset :: later →
    (∀ entry ∈ s.params.hostRegMap, entry.1 ≠ offset) → step s = .fault (.noHostRegister offset)) ∧
  ∀ (s : State) (h : HostReg) (later : List HostMove), s.resetLine.head? ≠ some true → s.regs.busy = false →
    s.hostMoves = .read h :: later →
    let r := s.regs
    let coefficient (f : Calibration → U16) : Option HostValue :=
      if r.mode = .ready then r.cal.map fun c => .word (f c) else none
    let output (f : Outputs → HostValue) : Option HostValue := if r.sampleValid then r.out.map f else none
    let value : Option HostValue := match h with
      | .mode => some (.bits2 (match r.mode with | .uninit => 0b00 | .ready => 0b01 | .failed => 0b10))
      | .busy => some (.bit 0)
      | .devAddr => r.devAddr.map .byte
      | .c1 => coefficient (·.c1)
      | .c2 => coefficient (·.c2)
      | .c3 => coefficient (·.c3)
      | .c4 => coefficient (·.c4)
      | .c5 => coefficient (·.c5)
      | .c6 => coefficient (·.c6)
      | .crcComputed => r.crcComputed.map .nibble
      | .crcStored => r.crcStored.map .nibble
      | .pOut => output fun o => .int64 o.pOut
      | .tOut => output fun o => .int64 o.tOut
      | .pMbar => output fun o => .float32 o.pMbar
      | .tC => output fun o => .float32 o.tC
      | .sampleValid => some (.bit (if r.sampleValid then 1 else 0))
      | .status => some (.nibble (statusCode r.status))
      | .errInfo => if r.status = .errTransport then r.errInfo.map .transportError else none
      | .errCmd => if r.status = .errTransport then r.errCmd.map .byte else none
    (∀ v, value = some v → step s = .next { s with
      resetLine := s.resetLine.tail, hostMoves := later, hostLog := s.hostLog ++ [.value h v] }) ∧
    (value = none → ∃ reg, step s = .fault (.noValue reg))

/-- R38 as the model holds it (log entry 2): the answers come from the list while it lasts, then from the free oracle,
and a draw changes nothing else. -/
def Obligations.TransportDraw : Prop :=
  (∀ (s : State) (a : BusAnswer) (rest : List BusAnswer), s.answers = a :: rest →
    nextAnswer s = a ∧ dropAnswer s = { s with answers := rest }) ∧
  ∀ s : State, s.answers = [] →
    nextAnswer s = Config.transportAnswer s.draws ∧ dropAnswer s = { s with draws := s.draws + 1 }

/-- A table word placed by `withFetchWord` is what the very next step runs (log entry 7): the step is `exec` of the
row's instruction, on a state whose host has the moves it had; a sensor command then completes. -/
def Obligations.PlacedWordRuns : Prop :=
  ∀ (i : Instr) (s : State), ∃ t : State, t.hostMoves = s.hostMoves ∧ t.trace = s.trace ∧ t.answers = s.answers ∧
    step (s.withFetchWord 8 (encode i).toNat) = exec i t ∧
    ((∃ f, fieldsOf i = .bus f) → ∃ u, exec i t = .next u)

/-! ## The host operations -/

/-- R50, R88, R92: INIT is accepted in every mode; it takes the address of its `A0` bit and drops the calibration and the
sample before its first PROM read. Nothing else changes. -/
def Obligations.InitAccepted : Prop :=
  ∀ s : State, s.regs.busy = false →
    exec .init77 s = .next { s with regs := { s.regs with
      busy := true, op := .init, upc := 0, devAddr := some 0x77, mode := .uninit, cal := none, sampleValid := false } } ∧
    exec .init76 s = .next { s with regs := { s.regs with
      busy := true, op := .init, upc := 0, devAddr := some 0x76, mode := .uninit, cal := none, sampleValid := false } }

/-- R88, R93: RESET is accepted in `READY`; acceptance writes `BUSY`, `OP` and `UPC` and nothing else. -/
def Obligations.ResetAccepted : Prop :=
  ∀ s : State, s.regs.busy = false → s.regs.mode = .ready →
    exec .reset s = .next { s with regs := { s.regs with busy := true, op := .reset, upc := 0 } }

/-- R88, R94: READ_SAMPLE is accepted in `READY` at each of the five levels; it latches the level's index and drops the
valid bit of the sample. Nothing else changes. -/
def Obligations.ReadSampleAccepted : Prop :=
  ∀ p ∈ [(Instr.readSampleOsr256, (0 : U3)), (Instr.readSampleOsr512, 1), (Instr.readSampleOsr1024, 2),
      (Instr.readSampleOsr2048, 3), (Instr.readSampleOsr4096, 4)],
    ∀ s : State, s.regs.busy = false → s.regs.mode = .ready →
      exec p.1 s = .next { s with regs := { s.regs with
        busy := true, op := .readSample, upc := 0, osri := some p.2, sampleValid := false } }

/-- R104: RESET and READ_SAMPLE in `UNINIT` or `FAILED` end at once with `ERR_NOT_READY`: no event, and `MODE`, `CAL`,
`SAMPLE_VALID` and the outputs are unchanged. -/
def Obligations.NotReadyRefused : Prop :=
  ∀ i ∈ [Instr.reset, .readSampleOsr256, .readSampleOsr512, .readSampleOsr1024, .readSampleOsr2048, .readSampleOsr4096],
    ∀ s : State, s.regs.busy = false → s.regs.mode ≠ .ready →
      exec i s = .next { s with
        regs := { s.regs with status := .errNotReady, errInfo := none, errCmd := none, op := .none, upc := 0,
                              busy := false }
        hostLog := s.hostLog ++ [.response .errNotReady] }

/-- R24 (c): while `BUSY = 1` the host has no move. No step of a busy block reads or changes the host's moves. That `exec`
answers a host operation on a busy block with the refusal `hostHasNoMove` is the model's choice (log entry 13). -/
def Obligations.BusyBlocksTheHost : Prop :=
  (∀ i ∈ [Instr.init77, .init76, .reset, .readSampleOsr256, .readSampleOsr512, .readSampleOsr1024, .readSampleOsr2048,
      .readSampleOsr4096], ∀ s : State, s.regs.busy = true → exec i s = .refused .hostHasNoMove) ∧
  ∀ (s t : State) (moves : List HostMove), s.regs.busy = true → step s = .next t →
    t.hostMoves = s.hostMoves ∧ step { s with hostMoves := moves } = .next { t with hostMoves := moves }

/-! ## The sensor commands -/

/-- R96 at RESET step 0: one `W` event with byte 0x1E. On `Ok` only the step index moves; on `Err(e)` the operation ends
with `ERR_TRANSPORT`, no delay follows, and no other register changes. -/
def Obligations.CmdResetRuns : Prop :=
  ∀ (s : State) (a : Byte), s.regs.busy = true → s.regs.op = .reset → s.regs.upc = 0 → s.regs.devAddr = some a →
    exec .cmdReset s = .next (match nextAnswer s with
      | .ok _ _ _ => { dropAnswer s with
          regs := { s.regs with upc := 1 }
          trace := s.trace ++ [.write a 0x1E (.ok [])] }
      | .err e => { dropAnswer s with
          regs := { s.regs with status := .errTransport, errInfo := some e, errCmd := some 0x1E, op := .none, upc := 0,
                                busy := false }
          hostLog := s.hostLog ++ [.response .errTransport]
          trace := s.trace ++ [.write a 0x1E (.err e)] })

/-- R97 at READ_SAMPLE step 0, at each of the five levels: one `W` event with byte 0x40 + offset. -/
def Obligations.CmdConvD1Runs : Prop :=
  ∀ p ∈ [(Instr.cmdConvD1Osr256, (0 : U3), (0x40 : Byte)), (Instr.cmdConvD1Osr512, 1, 0x42),
      (Instr.cmdConvD1Osr1024, 2, 0x44), (Instr.cmdConvD1Osr2048, 3, 0x46), (Instr.cmdConvD1Osr4096, 4, 0x48)],
    ∀ (s : State) (a : Byte), s.regs.busy = true → s.regs.op = .readSample → s.regs.upc = 0 →
      s.regs.osri = some p.2.1 → s.regs.devAddr = some a →
      exec p.1 s = .next (match nextAnswer s with
        | .ok _ _ _ => { dropAnswer s with
            regs := { s.regs with upc := 1 }
            trace := s.trace ++ [.write a p.2.2 (.ok [])] }
        | .err e => { dropAnswer s with
            regs := { s.regs with status := .errTransport, errInfo := some e, errCmd := some p.2.2, op := .none,
                                  upc := 0, busy := false }
            hostLog := s.hostLog ++ [.response .errTransport]
            trace := s.trace ++ [.write a p.2.2 (.err e)] })

/-- R98 at READ_SAMPLE step 3, at each of the five levels: one `W` event with byte 0x50 + offset. -/
def Obligations.CmdConvD2Runs : Prop :=
  ∀ p ∈ [(Instr.cmdConvD2Osr256, (0 : U3), (0x50 : Byte)), (Instr.cmdConvD2Osr512, 1, 0x52),
      (Instr.cmdConvD2Osr1024, 2, 0x54), (Instr.cmdConvD2Osr2048, 3, 0x56), (Instr.cmdConvD2Osr4096, 4, 0x58)],
    ∀ (s : State) (a : Byte), s.regs.busy = true → s.regs.op = .readSample → s.regs.upc = 3 →
      s.regs.osri = some p.2.1 → s.regs.devAddr = some a →
      exec p.1 s = .next (match nextAnswer s with
        | .ok _ _ _ => { dropAnswer s with
            regs := { s.regs with upc := 4 }
            trace := s.trace ++ [.write a p.2.2 (.ok [])] }
        | .err e => { dropAnswer s with
            regs := { s.regs with status := .errTransport, errInfo := some e, errCmd := some p.2.2, op := .none,
                                  upc := 0, busy := false }
            hostLog := s.hostLog ++ [.response .errTransport]
            trace := s.trace ++ [.write a p.2.2 (.err e)] })

/-- R99: the ADC read puts its three bytes, high byte first, into `D1` at READ_SAMPLE step 2 and into `D2` at step 5, and
writes no other register; every three-byte answer is taken. A failed read writes none of its bytes (R108). -/
def Obligations.CmdAdcReadRuns : Prop :=
  ∀ (s : State) (a : Byte), s.regs.busy = true → s.regs.op = .readSample → s.regs.devAddr = some a →
    let failed (e : TErr) : State := { dropAnswer s with
      regs := { s.regs with status := .errTransport, errInfo := some e, errCmd := some 0x00, op := .none, upc := 0,
                            busy := false }
      hostLog := s.hostLog ++ [.response .errTransport]
      trace := s.trace ++ [.writeRead a 0x00 3 (.err e)] }
    (s.regs.upc = 2 → exec .cmdAdcRead s = .next (match nextAnswer s with
      | .ok b0 b1 b2 => { dropAnswer s with
          regs := { s.regs with d1 := some ((b0 ++ b1 ++ b2 : BitVec 24).setWidth 32), upc := 3 }
          trace := s.trace ++ [.writeRead a 0x00 3 (.ok [b0, b1, b2])] }
      | .err e => failed e)) ∧
    (s.regs.upc = 5 → exec .cmdAdcRead s = .next (match nextAnswer s with
      | .ok b0 b1 b2 => { dropAnswer s with
          regs := { s.regs with d2 := some ((b0 ++ b1 ++ b2 : BitVec 24).setWidth 32), upc := 6 }
          trace := s.trace ++ [.writeRead a 0x00 3 (.ok [b0, b1, b2])] }
      | .err e => failed e))

/-- R100 at INIT step `k`: the read of PROM word `k` puts its two bytes, high byte first, into `W[k]` alone; `Err(e)`
makes `MODE` `FAILED` and ends INIT with `ERR_TRANSPORT`. -/
def Obligations.CmdPromReadRuns : Prop :=
  ∀ p ∈ [(Instr.cmdPromRead0, (0 : Fin 8), (0xA0 : Byte)), (Instr.cmdPromRead1, 1, 0xA2), (Instr.cmdPromRead2, 2, 0xA4),
      (Instr.cmdPromRead3, 3, 0xA6), (Instr.cmdPromRead4, 4, 0xA8), (Instr.cmdPromRead5, 5, 0xAA),
      (Instr.cmdPromRead6, 6, 0xAC), (Instr.cmdPromRead7, 7, 0xAE)],
    ∀ (s : State) (a : Byte), s.regs.busy = true → s.regs.op = .init → s.regs.upc.toNat = p.2.1.val →
      s.regs.devAddr = some a →
      exec p.1 s = .next (match nextAnswer s with
        | .ok b0 b1 _ => { dropAnswer s with
            regs := { s.regs with w := s.regs.w.set p.2.1 (some (b0 ++ b1)), upc := s.regs.upc + 1 }
            trace := s.trace ++ [.writeRead a p.2.2 2 (.ok [b0, b1])] }
        | .err e => { dropAnswer s with
            regs := { s.regs with mode := .failed, status := .errTransport, errInfo := some e, errCmd := some p.2.2,
                                  op := .none, upc := 0, busy := false }
            hostLog := s.hostLog ++ [.response .errTransport]
            trace := s.trace ++ [.writeRead a p.2.2 2 (.err e)] })

/-- R56, R89: a sensor command is refused anywhere but at the step that emits it: on an idle block, at every other bus
step, and at every step that emits nothing. The refusal's form is the model's choice (log entry 13). -/
def Obligations.SensorCommandOnlyAtItsStep : Prop :=
  ∀ (i : Instr) (f : BusFields) (s : State), fieldsOf i = .bus f →
    (s.regs.busy = false → exec i s = .refused .notEmittedHere) ∧
    (currentAction s.params s.regs ≠ .ok (.bus (encode i)) → exec i s = .refused .notEmittedHere)

/-! ## The steps without an instruction -/

/-- R89's delay steps: RESET step 1 waits `RESET_DELAY_MS` and ends the operation with `OK`; READ_SAMPLE steps 1 and 4
wait the level's wait. A delay raises no error. -/
def Obligations.DelaySteps : Prop :=
  ∀ s : State, s.resetLine.head? ≠ some true → s.regs.busy = true →
    (s.regs.op = .reset → s.regs.upc = 1 →
      step s = .next { s with
        resetLine := s.resetLine.tail
        regs := { s.regs with status := .ok, errInfo := none, errCmd := none, op := .none, upc := 0, busy := false }
        hostLog := s.hostLog ++ [.response .ok]
        trace := s.trace ++ [.delay s.params.resetDelayMs] }) ∧
    (∀ p ∈ [((0 : U3), (1 : Byte)), (1, 2), (2, 3), (3, 5), (4, 10)], s.regs.op = .readSample → s.regs.osri = some p.1 →
      (s.regs.upc = 1 → step s = .next { s with
        resetLine := s.resetLine.tail
        regs := { s.regs with upc := 2 }
        trace := s.trace ++ [.delay p.2] }) ∧
      (s.regs.upc = 4 → step s = .next { s with
        resetLine := s.resetLine.tail
        regs := { s.regs with upc := 5 }
        trace := s.trace ++ [.delay p.2] }))

/-- R69, R70, R72: INIT step 8 makes no event; it writes `CRC_COMPUTED` and `CRC_STORED` either way; equal nibbles store
words 1 to 6 as the coefficients, drop words 0 and 7 and give `READY` and `OK`, different ones give `FAILED` and
`ERR_CHECKSUM` and store nothing. -/
def Obligations.CrcCheckStep : Prop :=
  ∀ (s : State) (w : PromWords), s.resetLine.head? ≠ some true → s.regs.busy = true → s.regs.op = .init →
    s.regs.upc = 8 → s.regs.w = w.map some →
    (crc4 w = loNibble w[7] → step s = .next { s with
      resetLine := s.resetLine.tail
      regs := { s.regs with acc := none, crcComputed := some (crc4 w), crcStored := some (loNibble w[7]),
                            cal := some ⟨w[1], w[2], w[3], w[4], w[5], w[6]⟩,
                            w := #v[none, some w[1], some w[2], some w[3], some w[4], some w[5], some w[6], none],
                            mode := .ready, status := .ok,
                            errInfo := none, errCmd := none, op := .none, upc := 0, busy := false }
      hostLog := s.hostLog ++ [.response .ok] }) ∧
    (crc4 w ≠ loNibble w[7] → step s = .next { s with
      resetLine := s.resetLine.tail
      regs := { s.regs with acc := none, crcComputed := some (crc4 w), crcStored := some (loNibble w[7]),
                            mode := .failed, status := .errChecksum, errInfo := none, errCmd := none, op := .none,
                            upc := 0, busy := false }
      hostLog := s.hostLog ++ [.response .errChecksum] })

/-- R74, R84, R94: READ_SAMPLE step 6 makes no event and cannot fail; it writes the datapath, the four outputs and
`SAMPLE_VALID` together, `P_OUT` and `T_OUT` being `PRESSURE` and the final `TEMP` and the floats `FLOAT_CONV` of them at
whatever value the parameter has. -/
def Obligations.CompensateStep : Prop :=
  ∀ (s : State) (d1 d2 : S32) (c : Calibration), s.resetLine.head? ≠ some true → s.regs.busy = true →
    s.regs.op = .readSample → s.regs.upc = 6 → s.regs.d1 = some d1 → s.regs.d2 = some d2 → s.regs.cal = some c →
    let v := compensate d1.toInt d2.toInt c
    step s = .next { s with
      resetLine := s.resetLine.tail
      regs := { s.regs with
        datapath := some { dT := .ofInt 64 v.dT, temp := .ofInt 64 v.temp, off := .ofInt 64 v.off,
                           sens := .ofInt 64 v.sens, t2 := .ofInt 64 v.t2, off2 := .ofInt 64 v.off2,
                           sens2 := .ofInt 64 v.sens2, pressure := .ofInt 64 v.pressure }
        out := some { pOut := .ofInt 64 v.pressure, tOut := .ofInt 64 v.temp,
                      pMbar := floatConv s.params (.ofInt 64 v.pressure), tC := floatConv s.params (.ofInt 64 v.temp) }
        sampleValid := true, status := .ok, errInfo := none, errCmd := none, op := .none, upc := 0, busy := false }
      hostLog := s.hostLog ++ [.response .ok] }

/-! ## The end of an operation -/

/-- R106: what `raise` writes, for each error kind, and that it writes nothing else; after it the block makes no event
until the host issues a command: a step that leaves the block idle makes none. -/
def Obligations.RaiseEndsOperation : Prop :=
  (∀ (s : State) (e : TErr) (c : Byte), raise (.transport e c) s = { s with
    regs := { s.regs with status := .errTransport, errInfo := some e, errCmd := some c, op := .none, upc := 0,
                          busy := false }
    hostLog := s.hostLog ++ [.response .errTransport] }) ∧
  (∀ p ∈ [(ErrorKind.checksum, Status.errChecksum), (.notReady, .errNotReady), (.illegalCommand, .errIllegalCmd)],
    ∀ s : State, raise p.1 s = { s with
      regs := { s.regs with status := p.2, errInfo := none, errCmd := none, op := .none, upc := 0, busy := false }
      hostLog := s.hostLog ++ [.response p.2] }) ∧
  ∀ (k : ErrorKind) (s t : State), step (raise k s) = .next t → t.trace = s.trace

/-- R107: what `done(OK)` writes, and that it writes nothing else. -/
def Obligations.DoneEndsOperation : Prop :=
  ∀ s : State, doneOk s = { s with
    regs := { s.regs with status := .ok, errInfo := none, errCmd := none, op := .none, upc := 0, busy := false }
    hostLog := s.hostLog ++ [.response .ok] }

/-- R11, R101: the codes the host reads; the six outcomes have six codes, and no code is 6 to 15. -/
def Obligations.StatusCodes : Prop :=
  statusCode .none = 0x0 ∧ statusCode .ok = 0x1 ∧ statusCode .errTransport = 0x2 ∧ statusCode .errChecksum = 0x3 ∧
  statusCode .errNotReady = 0x4 ∧ statusCode .errIllegalCmd = 0x5 ∧ (∀ x : Status, (statusCode x).toNat < 6) ∧
  modeCode .uninit = 0b00 ∧ modeCode .ready = 0b01 ∧ modeCode .failed = 0b10

/-! ## Whole operations -/

/-- R92 with eight `Ok` answers, from any state of the registers in which the host has a move: ten steps take INIT from
acceptance to its end, with the eight PROM reads as its events, in order, and the outcome the checksum gives. -/
def Obligations.InitRunsToItsEnd : Prop :=
  ∀ (s : State) (a0 : Bool) (w : PromWords) (x : Vector Byte 8) (later : List HostMove) (rest : List BusAnswer),
    s.resetLine = [] → s.regs.busy = false → s.hostMoves = .issue (if a0 then 0x11 else 0x10) :: later →
    s.answers = (List.finRange 8).map (fun k => .ok (hiByte w[k]) (loByte w[k]) x[k]) ++ rest →
    let a : Byte := if a0 then 0x76 else 0x77
    let good := crc4 w = loNibble w[7]
    Host.Core.run Sys2Proof.core 10 s = .next { s with
      regs := { s.regs with
        mode := if good then .ready else .failed, devAddr := some a, acc := none,
        w := if good then #v[none, some w[1], some w[2], some w[3], some w[4], some w[5], some w[6], none]
          else w.map some,
        cal := if good then some ⟨w[1], w[2], w[3], w[4], w[5], w[6]⟩ else none,
        crcComputed := some (crc4 w), crcStored := some (loNibble w[7]), sampleValid := false,
        status := if good then .ok else .errChecksum, errInfo := none, errCmd := none,
        busy := false, op := .none, upc := 0 }
      hostMoves := later
      answers := rest
      hostLog := s.hostLog ++ [.response (if good then .ok else .errChecksum)]
      trace := s.trace ++ (List.finRange 8).map fun k =>
        .writeRead a (0xA0 + BitVec.ofNat 8 (2 * k.val)) 2 (.ok [hiByte w[k], loByte w[k]]) }

/-- R90, R92 with the first `Err(e)` at PROM step `k`: INIT ends there with `ERR_TRANSPORT` and `FAILED`; words before
`k` are written, `W[k..7]` and the checksum record are not, and no later event is made. -/
def Obligations.InitStopsAtTransportError : Prop :=
  ∀ (s : State) (a0 : Bool) (k : Fin 8) (w : PromWords) (x : Vector Byte 8) (e : TErr) (later : List HostMove)
    (rest : List BusAnswer),
    s.resetLine = [] → s.regs.busy = false → s.hostMoves = .issue (if a0 then 0x11 else 0x10) :: later →
    s.answers = ((List.finRange 8).take k).map (fun j => .ok (hiByte w[j]) (loByte w[j]) x[j]) ++ .err e :: rest →
    let a : Byte := if a0 then 0x76 else 0x77
    Host.Core.run Sys2Proof.core (k.val + 2) s = .next { s with
      regs := { s.regs with
        mode := .failed, devAddr := some a, cal := none, sampleValid := false,
        w := Vector.ofFn fun j => if j < k then some w[j] else s.regs.w[j]
        status := .errTransport, errInfo := some e, errCmd := some (0xA0 + BitVec.ofNat 8 (2 * k.val)),
        busy := false, op := .none, upc := 0 }
      hostMoves := later
      answers := rest
      hostLog := s.hostLog ++ [.response .errTransport]
      trace := s.trace ++ ((List.finRange 8).take k).map (fun j =>
          .writeRead a (0xA0 + BitVec.ofNat 8 (2 * j.val)) 2 (.ok [hiByte w[j], loByte w[j]])) ++
        [.writeRead a (0xA0 + BitVec.ofNat 8 (2 * k.val)) 2 (.err e)] }

/-- R93 with an `Ok` answer, on a `READY` block: three steps, one write of 0x1E, one delay of `RESET_DELAY_MS`, and `OK`;
`MODE`, `CAL` and the sample outputs are unchanged. -/
def Obligations.ResetRunsToItsEnd : Prop :=
  ∀ (s : State) (a b0 b1 b2 : Byte) (later : List HostMove) (rest : List BusAnswer),
    s.resetLine = [] → s.regs.busy = false → s.regs.mode = .ready → s.regs.devAddr = some a →
    s.hostMoves = .issue 0x20 :: later → s.answers = .ok b0 b1 b2 :: rest →
    Host.Core.run Sys2Proof.core 3 s = .next { s with
      regs := { s.regs with status := .ok, errInfo := none, errCmd := none, busy := false, op := .none, upc := 0 }
      hostMoves := later
      answers := rest
      hostLog := s.hostLog ++ [.response .ok]
      trace := s.trace ++ [.write a 0x1E (.ok []), .delay s.params.resetDelayMs] }

/-- R91, R94 with four `Ok` answers, on a `READY` block, at each of the five levels: eight steps, the six events of one
level in order, and the sample the compensation gives. `MODE` and `CAL` are unchanged. -/
def Obligations.ReadSampleRunsToItsEnd : Prop :=
  ∀ p ∈ [((0x30 : Byte), (0 : U3), (1 : Byte), (0 : Byte)), (0x32, 1, 2, 2), (0x34, 2, 3, 4), (0x36, 3, 5, 6),
      (0x38, 4, 10, 8)],
    ∀ (s : State) (a b0 b1 b2 c0 c1 c2 x0 x1 x2 y0 y1 y2 : Byte) (cal : Calibration) (later : List HostMove)
      (rest : List BusAnswer),
      s.resetLine = [] → s.regs.busy = false → s.regs.mode = .ready → s.regs.devAddr = some a →
      s.regs.cal = some cal → s.hostMoves = .issue p.1 :: later →
      s.answers = .ok x0 x1 x2 :: .ok b0 b1 b2 :: .ok y0 y1 y2 :: .ok c0 c1 c2 :: rest →
      let d1 : S32 := (b0 ++ b1 ++ b2 : BitVec 24).setWidth 32
      let d2 : S32 := (c0 ++ c1 ++ c2 : BitVec 24).setWidth 32
      let d := datapathOf (compensate d1.toInt d2.toInt cal)
      Host.Core.run Sys2Proof.core 8 s = .next { s with
        regs := { s.regs with
          osri := some p.2.1, d1 := some d1, d2 := some d2, datapath := some d,
          out := some { pOut := d.pressure, tOut := d.temp, pMbar := floatConv s.params d.pressure,
                        tC := floatConv s.params d.temp },
          sampleValid := true, status := .ok, errInfo := none, errCmd := none, busy := false, op := .none, upc := 0 }
        hostMoves := later
        answers := rest
        hostLog := s.hostLog ++ [.response .ok]
        trace := s.trace ++ [.write a (0x40 + p.2.2.2) (.ok []), .delay p.2.2.1,
          .writeRead a 0x00 3 (.ok [b0, b1, b2]), .write a (0x50 + p.2.2.2) (.ok []), .delay p.2.2.1,
          .writeRead a 0x00 3 (.ok [c0, c1, c2])] }

/-- R90, R94: the first `Err(e)` of a READ_SAMPLE, at step 0, 2, 3 or 5, ends it: the run is idle right after it, with
`ERR_TRANSPORT`, no valid sample and the old outputs, `MODE` and `CAL` unchanged. -/
def Obligations.ReadSampleStopsAtTransportError : Prop :=
  ∀ (s t : State) (e : TErr), RegsInv s.regs → s.resetLine.head? ≠ some true → s.regs.busy = true →
    s.regs.op = .readSample → s.regs.upc ∈ ([0, 2, 3, 5] : List U4) → nextAnswer s = .err e → step s = .next t →
    t.regs.busy = false ∧ t.regs.op = .none ∧ t.regs.upc = 0 ∧ t.regs.status = .errTransport ∧
    t.regs.errInfo = some e ∧ t.regs.sampleValid = false ∧ t.regs.out = s.regs.out ∧ t.regs.mode = s.regs.mode ∧
    t.regs.cal = s.regs.cal ∧ t.regs.d1 = s.regs.d1 ∧ t.regs.d2 = s.regs.d2 ∧
    t.hostLog = s.hostLog ++ [.response .errTransport] ∧ ∃ ev, t.trace = s.trace ++ [ev]

/-! ## The OSR ROM -/

/-- R59: the ROM's five entries and the command bytes they give. -/
def Obligations.OsrRomContents : Prop :=
  osrRom = [⟨1, 0⟩, ⟨2, 2⟩, ⟨3, 4⟩, ⟨5, 6⟩, ⟨10, 8⟩] ∧
  osrRom.map pressureCommand = [0x40, 0x42, 0x44, 0x46, 0x48] ∧
  osrRom.map temperatureCommand = [0x50, 0x52, 0x54, 0x56, 0x58] ∧
  (∀ i : U3, i.toNat ≤ 4 → ∃ e, osrEntry i = some e ∧ e.offset.toNat = 2 * i.toNat) ∧
  ∀ i : U3, 4 < i.toNat → osrEntry i = none

/-- R61: a higher level has a longer wait and a larger offset. -/
def Obligations.OsrMonotone : Prop :=
  ∀ (i j : U3) (a b : OsrEntry), i < j → osrEntry i = some a → osrEntry j = some b →
    a.wait < b.wait ∧ a.offset < b.offset

/-! ## The CRC validator -/

/-- R63 to R68: the stream is the fourteen bytes of words 0 to 6, the high byte of word 7 and a zero byte; each byte is
XORed in and followed by eight bit steps; the result is the top nibble, and the stored nibble is bits 3:0 of word 7. -/
def Obligations.CrcSteps : Prop :=
  (∀ acc : U16, crcBit acc = if acc.getLsbD 15 then (acc <<< 1) ^^^ 0x3000 else acc <<< 1) ∧
  (∀ (acc : U16) (b : Byte), crcByte acc b =
    crcBit (crcBit (crcBit (crcBit (crcBit (crcBit (crcBit (crcBit (acc ^^^ b.setWidth 16))))))))) ∧
  (∀ (w : PromWords) (k : Fin 7), (crcStream w)[2 * k.val]? = some (hiByte w[k.val]) ∧
    (crcStream w)[2 * k.val + 1]? = some (loByte w[k.val])) ∧
  (∀ w : PromWords, (crcStream w).length = 16 ∧ (crcStream w)[14]? = some (hiByte w[7]) ∧
    (crcStream w)[15]? = some 0 ∧ crcAcc w = (crcStream w).foldl crcByte 0 ∧ crc4 w = (crcAcc w).extractLsb' 12 4 ∧
    storedNibble w = w[7].extractLsb' 0 4)

/-- R73 (a): the check is linear over XOR. -/
def Obligations.CrcLinear : Prop :=
  ∀ v w : PromWords, crc4 (Vector.zipWith (· ^^^ ·) v w) = crc4 v ^^^ crc4 w

/-- R73 (b): after each byte of any stream, from 0, the low byte of the accumulator is clear. -/
def Obligations.CrcLowByteClear : Prop :=
  ∀ bytes : List Byte, (bytes.foldl crcByte 0x0000).extractLsb' 0 8 = (0 : Byte)

/-- R73 (c): a change of one bit in words 0 to 6 or in bits 15:8 of word 7 changes the computed nibble and not the stored
one; a change of one of bits 3:0 of word 7 changes the stored nibble and not the computed one; a change of one of bits
7:4 of word 7 changes neither. -/
def Obligations.CrcSingleBitDetection : Prop :=
  ∀ (w : PromWords) (k : Fin 8) (b : Fin 16),
    let v : PromWords := w.set k (w[k] ^^^ (1 <<< b.val))
    ((k.val < 7 ∨ 8 ≤ b.val) → crc4 v ≠ crc4 w ∧ storedNibble v = storedNibble w) ∧
    ((k.val = 7 ∧ b.val < 4) → crc4 v = crc4 w ∧ storedNibble v ≠ storedNibble w) ∧
    ((k.val = 7 ∧ 4 ≤ b.val ∧ b.val < 8) → crc4 v = crc4 w ∧ storedNibble v = storedNibble w)

/-- R73 (d): the double change of bits 0 and 15 of word 0 is detected for no word set. -/
def Obligations.CrcDoubleBitUndetected : Prop :=
  ∀ w : PromWords, crc4 (w.set 0 (w[0] ^^^ 0x8001)) = crc4 w

/-! ## The compensation engine -/

/-- R75 to R83, R86: the exact values, with every right shift written as a division that rounds toward minus infinity. -/
def Obligations.CompensationFormulas : Prop :=
  ∀ (d1 d2 : Int) (c : Calibration),
    let v := compensate d1 d2 c
    let n (x : U16) : Int := x.toNat
    v.dT = d2 - 256 * n c.c5 ∧
    v.temp0 = 2000 + (v.dT * n c.c6) / 8388608 ∧
    (2000 ≤ v.temp0 → v.t2 = 0 ∧ v.off2 = 0 ∧ v.sens2 = 0) ∧
    (v.temp0 < 2000 → v.t2 = v.dT ^ 2 / 2147483648) ∧
    (-1500 ≤ v.temp0 → v.temp0 < 2000 →
      v.off2 = 5 * (v.temp0 - 2000) ^ 2 / 2 ∧ v.sens2 = 5 * (v.temp0 - 2000) ^ 2 / 4) ∧
    (v.temp0 < -1500 →
      v.off2 = 5 * (v.temp0 - 2000) ^ 2 / 2 + 7 * (v.temp0 + 1500) ^ 2 ∧
      v.sens2 = 5 * (v.temp0 - 2000) ^ 2 / 4 + 11 * (v.temp0 + 1500) ^ 2 / 2) ∧
    v.temp = v.temp0 - v.t2 ∧
    v.off = 65536 * n c.c2 + (v.dT * n c.c4) / 128 - v.off2 ∧
    v.sens = 32768 * n c.c1 + (v.dT * n c.c3) / 256 - v.sens2 ∧
    v.pressure = ((d1 * v.sens) / 2097152 - v.off) / 32768

/-- R85: the range of every intermediate, over all raw values and all coefficients. -/
def Obligations.CompensationRanges : Prop :=
  ∀ (d1 d2 : Int) (c : Calibration), 0 ≤ d1 → d1 ≤ 16777215 → 0 ≤ d2 → d2 ≤ 16777215 →
    let v := compensate d1 d2 c
    (-16776960 ≤ v.dT ∧ v.dT ≤ 16777215) ∧ (-129069 ≤ v.temp0 ∧ v.temp0 ≤ 133069) ∧
    (0 ≤ v.t2 ∧ v.t2 ≤ 131068) ∧ (0 ≤ v.off2 ∧ v.off2 ≤ 156864655229) ∧ (0 ≤ v.sens2 ∧ v.sens2 ≤ 110980027136) ∧
    (-260137 ≤ v.temp ∧ v.temp ≤ 133069) ∧ (-165454327679 ≤ v.off ∧ v.off ≤ 12884704768) ∧
    (-115274863361 ≤ v.sens ∧ v.sens ≤ 6442352384) ∧
    (-1933991166703119615 ≤ d1 * v.sens ∧ d1 * v.sens ≤ 108084731052130560) ∧
    (-33192540 ≤ v.pressure ∧ v.pressure ≤ 33192540)

/-- R85: exact integers and two's-complement s64 arithmetic give the same registers: a datapath whose every operation
wraps at 64 bits writes what the model's exact formulas write. -/
def Obligations.ExactEqualsWrapping : Prop :=
  ∀ (d1 d2 : S32) (c : Calibration), rawWf d1 = true → rawWf d2 = true →
    compensate64 d1 d2 c = datapathOf (compensate d1.toInt d2.toInt c)

/-- R80: below -15.00 degrees the second branch makes both corrections strictly larger than the first alone. -/
def Obligations.VeryLowBranchAdds : Prop :=
  ∀ dT temp0 : Int, temp0 < -1500 →
    (lowCorrection dT temp0).off2 < (correction dT temp0).off2 ∧
    (lowCorrection dT temp0).sens2 < (correction dT temp0).sens2 ∧
    (correction dT temp0).t2 = (lowCorrection dT temp0).t2

/-- R87: an all-zero calibration gives `PRESSURE = 0` and `TEMP = 2000` for every `D1` and `D2`. -/
def Obligations.ZeroCalibration : Prop :=
  ∀ d1 d2 : Int, (compensate d1 d2 ⟨0, 0, 0, 0, 0, 0⟩).pressure = 0 ∧
    (compensate d1 d2 ⟨0, 0, 0, 0, 0, 0⟩).temp = 2000

/-- `RNE32` of the default `FLOAT_CONV` (R84; PRESUMED, log entry 4): every quotient below the overflow threshold,
`2^128 - 2^103`, becomes the nearest binary32 number, ties to even, and every one from the threshold on the infinity. -/
def Obligations.FloatRoundsToNearestEven : Prop :=
  ∀ (negative : Bool) (num den : Nat), 0 < den →
    (num < (2 ^ 128 - 2 ^ 103) * den → NearestEven (rne32 negative num den) negative num den) ∧
    ((2 ^ 128 - 2 ^ 103) * den ≤ num → rne32 negative num den = if negative then 0xFF800000 else 0x7F800000)

/-- The default `FLOAT_CONV` (R84; PRESUMED, log entry 4) is the integer rounded to binary32, then the quotient of that
number by 100 rounded to binary32, each to the nearest with ties to even, with the integer's sign. -/
def Obligations.FloatConvDividesByHundred : Prop :=
  ∀ (p : Params) (x : S64), p.floatConv = .standard →
    ∃ y : F32, NearestEven y (decide (x.toInt < 0)) x.toInt.natAbs 1 ∧
      NearestEven (floatConv p x) (decide (x.toInt < 0)) (magnitude32 y) (100 * 2 ^ 149)

/-- R84 (PRESUMED, log entry 4): an integer up to 2^24 in magnitude converts to binary32 exactly. -/
def Obligations.FloatExactUpTo24Bits : Prop :=
  ∀ x : Int, x.natAbs ≤ 16777216 →
    magnitude32 (intToFloat x) = x.natAbs * 2 ^ 149 ∧ (intToFloat x).getLsbD 31 = decide (x < 0)

/-! ## Invariants and whole-machine rules -/

/-- The registers after the block reset meet the invariant. -/
def Obligations.ResetMeetsInvariant : Prop := RegsInv State.reset.regs ∧ HazardInv State.reset

/-- Every step keeps the invariant of the registers: among it, `READY` only with a calibration that passed the checksum
(R11, R15), `DEV_ADDR` legal (R14), `D1` and `D2` with bits 31:24 zero (R18), `ERR_INFO` and `ERR_CMD` with a value
exactly after `ERR_TRANSPORT` (R21). -/
def Obligations.StepKeepsInvariant : Prop :=
  ∀ s t : State, RegsInv s.regs → step s = .next t → RegsInv t.regs

/-- R25: in every state that meets the invariant the block itself reads no register without a value and refuses nothing:
a step either goes on or stops at a read the host makes. -/
def Obligations.OnlyHostReadsFault : Prop :=
  ∀ s : State, RegsInv s.regs → noHostRead s → ∃ t, step s = .next t

/-- R95: every step from a state that meets the invariant follows the `MODE` transition relation. -/
def Obligations.ModeTransitions : Prop :=
  ∀ s t : State, RegsInv s.regs → step s = .next t → FollowsLifecycle s t

/-- R15: `CAL` changes only at the block reset, where an INIT starts (to no value) and at INIT's accepting step. -/
def Obligations.CalibrationImmutable : Prop :=
  ∀ s t : State, step s = .next t →
    t.regs.cal = s.regs.cal ∨ (resetAsserted s ∧ t.regs.cal = none) ∨ (acceptsInit s ∧ t.regs.cal = none) ∨
    (s.regs.busy = true ∧ s.regs.op = .init ∧ s.regs.upc = 8 ∧ t.regs.mode = .ready ∧
      ∃ w : PromWords, s.regs.w = w.map some ∧ crc4 w = storedNibble w ∧ t.regs.cal = some (calibrationOf w))

/-- R128: every operation ends: from any step of it, whatever the transport answers, at most nine steps bring the block
to idle, with at most the operation's number of events. -/
def Obligations.OperationsEnd : Prop :=
  ∀ s : State, RegsInv s.regs → s.regs.busy = true → s.resetLine = [] →
    ∃ (n : Nat) (t : State) (evs : List Event), n ≤ 9 ∧ Host.Core.run Sys2Proof.core n s = .next t ∧
      t.regs.busy = false ∧ t.regs.op = .none ∧ t.trace = s.trace ++ evs ∧ evs.length ≤ maxEvents s.regs.op

/-- R28, R40, R54, R56: a step makes at most one event, a busy block only; it goes to `DEV_ADDR`, with one of the twenty
command bytes and its length. Events are never taken back. -/
def Obligations.OneAllowedEventPerStep : Prop :=
  ∀ s t : State, step s = .next t → t.trace = s.trace ∨
    ∃ ev, t.trace = s.trace ++ [ev] ∧ s.regs.busy = true ∧ ∀ a, s.regs.devAddr = some a → EventAllowed a ev

/-- R121, R122: the conversion hazards are held off by every step: each ADC read comes right after the delay of its level,
which comes right after the level's conversion command, and each temperature conversion command comes right after the ADC
read of the pressure conversion. The answers are free, so this holds for every sensor. -/
def Obligations.StepKeepsReadsDelayed : Prop :=
  ∀ s t : State, RegsInv s.regs → HazardInv s → step s = .next t → HazardInv t

/-- R20, C9: no step of an operation reads the outcome record, the checksum record or the sample: two states that differ
only there make the same events, draw the same answers and stay equal but for them. -/
def Obligations.RecordsNeverFeedBack : Prop :=
  ∀ s s' t : State, hideRecords s = hideRecords s' → noHostRead s → step s = .next t →
    ∃ t', step s' = .next t' ∧ hideRecords t' = hideRecords t

/-- R5: no step writes an open parameter. -/
def Obligations.ParametersFixed : Prop :=
  ∀ s t : State, step s = .next t → t.params = s.params
end

