-- ==== Sys2Proof/Laws/State.lean ====
section
/-! SUPPORT. What each named update of the state and of the registers leaves in each field: one lemma a field, so that no
later proof unfolds a record update. -/

namespace Sys2Proof.Laws

open Sys2Proof Sys2Proof.Machine

/-! ## Updates of the state -/

@[simp] theorem emit_regs (ev : Event) (s : State) : (emit ev s).regs = s.regs := rfl
@[simp] theorem emit_params (ev : Event) (s : State) : (emit ev s).params = s.params := rfl
@[simp] theorem emit_resetLine (ev : Event) (s : State) : (emit ev s).resetLine = s.resetLine := rfl
@[simp] theorem emit_hostMoves (ev : Event) (s : State) : (emit ev s).hostMoves = s.hostMoves := rfl
@[simp] theorem emit_hostLog (ev : Event) (s : State) : (emit ev s).hostLog = s.hostLog := rfl
@[simp] theorem emit_answers (ev : Event) (s : State) : (emit ev s).answers = s.answers := rfl
@[simp] theorem emit_draws (ev : Event) (s : State) : (emit ev s).draws = s.draws := rfl
@[simp] theorem emit_trace (ev : Event) (s : State) : (emit ev s).trace = s.trace ++ [ev] := rfl

@[simp] theorem delayFor_regs (ms : Byte) (s : State) : (delayFor ms s).regs = s.regs := rfl
@[simp] theorem delayFor_params (ms : Byte) (s : State) : (delayFor ms s).params = s.params := rfl
@[simp] theorem delayFor_resetLine (ms : Byte) (s : State) : (delayFor ms s).resetLine = s.resetLine := rfl
@[simp] theorem delayFor_hostMoves (ms : Byte) (s : State) : (delayFor ms s).hostMoves = s.hostMoves := rfl
@[simp] theorem delayFor_hostLog (ms : Byte) (s : State) : (delayFor ms s).hostLog = s.hostLog := rfl
@[simp] theorem delayFor_answers (ms : Byte) (s : State) : (delayFor ms s).answers = s.answers := rfl
@[simp] theorem delayFor_draws (ms : Byte) (s : State) : (delayFor ms s).draws = s.draws := rfl
@[simp] theorem delayFor_trace (ms : Byte) (s : State) : (delayFor ms s).trace = s.trace ++ [.delay ms] := rfl

@[simp] theorem onRegs_regs (f : Regs → Regs) (s : State) : (onRegs f s).regs = f s.regs := rfl
@[simp] theorem onRegs_params (f : Regs → Regs) (s : State) : (onRegs f s).params = s.params := rfl
@[simp] theorem onRegs_resetLine (f : Regs → Regs) (s : State) : (onRegs f s).resetLine = s.resetLine := rfl
@[simp] theorem onRegs_hostMoves (f : Regs → Regs) (s : State) : (onRegs f s).hostMoves = s.hostMoves := rfl
@[simp] theorem onRegs_hostLog (f : Regs → Regs) (s : State) : (onRegs f s).hostLog = s.hostLog := rfl
@[simp] theorem onRegs_answers (f : Regs → Regs) (s : State) : (onRegs f s).answers = s.answers := rfl
@[simp] theorem onRegs_draws (f : Regs → Regs) (s : State) : (onRegs f s).draws = s.draws := rfl
@[simp] theorem onRegs_trace (f : Regs → Regs) (s : State) : (onRegs f s).trace = s.trace := rfl

@[simp] theorem tellHost_regs (ev : HostEvent) (s : State) : (tellHost ev s).regs = s.regs := rfl
@[simp] theorem tellHost_params (ev : HostEvent) (s : State) : (tellHost ev s).params = s.params := rfl
@[simp] theorem tellHost_resetLine (ev : HostEvent) (s : State) : (tellHost ev s).resetLine = s.resetLine := rfl
@[simp] theorem tellHost_hostMoves (ev : HostEvent) (s : State) : (tellHost ev s).hostMoves = s.hostMoves := rfl
@[simp] theorem tellHost_hostLog (ev : HostEvent) (s : State) : (tellHost ev s).hostLog = s.hostLog ++ [ev] := rfl
@[simp] theorem tellHost_answers (ev : HostEvent) (s : State) : (tellHost ev s).answers = s.answers := rfl
@[simp] theorem tellHost_draws (ev : HostEvent) (s : State) : (tellHost ev s).draws = s.draws := rfl
@[simp] theorem tellHost_trace (ev : HostEvent) (s : State) : (tellHost ev s).trace = s.trace := rfl

@[simp] theorem blockReset_regs (s : State) : (blockReset s).regs = Regs.reset := rfl
@[simp] theorem blockReset_params (s : State) : (blockReset s).params = s.params := rfl
@[simp] theorem blockReset_resetLine (s : State) : (blockReset s).resetLine = s.resetLine := rfl
@[simp] theorem blockReset_hostMoves (s : State) : (blockReset s).hostMoves = s.hostMoves := rfl
@[simp] theorem blockReset_hostLog (s : State) : (blockReset s).hostLog = s.hostLog := rfl
@[simp] theorem blockReset_answers (s : State) : (blockReset s).answers = s.answers := rfl
@[simp] theorem blockReset_draws (s : State) : (blockReset s).draws = s.draws := rfl
@[simp] theorem blockReset_trace (s : State) : (blockReset s).trace = s.trace := rfl

@[simp] theorem raise_regs (k : ErrorKind) (s : State) : (raise k s).regs = raiseRegs k s.regs := rfl
@[simp] theorem raise_params (k : ErrorKind) (s : State) : (raise k s).params = s.params := rfl
@[simp] theorem raise_resetLine (k : ErrorKind) (s : State) : (raise k s).resetLine = s.resetLine := rfl
@[simp] theorem raise_hostMoves (k : ErrorKind) (s : State) : (raise k s).hostMoves = s.hostMoves := rfl
@[simp] theorem raise_hostLog (k : ErrorKind) (s : State) : (raise k s).hostLog = s.hostLog ++ [.response (errorStatus k)] := rfl
@[simp] theorem raise_answers (k : ErrorKind) (s : State) : (raise k s).answers = s.answers := rfl
@[simp] theorem raise_draws (k : ErrorKind) (s : State) : (raise k s).draws = s.draws := rfl
@[simp] theorem raise_trace (k : ErrorKind) (s : State) : (raise k s).trace = s.trace := rfl

@[simp] theorem doneOk_regs (s : State) : (doneOk s).regs = doneRegs s.regs := rfl
@[simp] theorem doneOk_params (s : State) : (doneOk s).params = s.params := rfl
@[simp] theorem doneOk_resetLine (s : State) : (doneOk s).resetLine = s.resetLine := rfl
@[simp] theorem doneOk_hostMoves (s : State) : (doneOk s).hostMoves = s.hostMoves := rfl
@[simp] theorem doneOk_hostLog (s : State) : (doneOk s).hostLog = s.hostLog ++ [.response .ok] := rfl
@[simp] theorem doneOk_answers (s : State) : (doneOk s).answers = s.answers := rfl
@[simp] theorem doneOk_draws (s : State) : (doneOk s).draws = s.draws := rfl
@[simp] theorem doneOk_trace (s : State) : (doneOk s).trace = s.trace := rfl

@[simp] theorem dropAnswer_regs (s : State) : (dropAnswer s).regs = s.regs := by unfold dropAnswer; split <;> rfl
@[simp] theorem dropAnswer_params (s : State) : (dropAnswer s).params = s.params := by unfold dropAnswer; split <;> rfl
@[simp] theorem dropAnswer_resetLine (s : State) : (dropAnswer s).resetLine = s.resetLine := by unfold dropAnswer; split <;> rfl
@[simp] theorem dropAnswer_hostMoves (s : State) : (dropAnswer s).hostMoves = s.hostMoves := by unfold dropAnswer; split <;> rfl
@[simp] theorem dropAnswer_hostLog (s : State) : (dropAnswer s).hostLog = s.hostLog := by unfold dropAnswer; split <;> rfl
@[simp] theorem dropAnswer_trace (s : State) : (dropAnswer s).trace = s.trace := by unfold dropAnswer; split <;> rfl

/-! ## Updates of the registers -/

@[simp] theorem advance_mode (r : Regs) : (advance r).mode = r.mode := rfl
@[simp] theorem advance_busy (r : Regs) : (advance r).busy = r.busy := rfl
@[simp] theorem advance_op (r : Regs) : (advance r).op = r.op := rfl
@[simp] theorem advance_upc (r : Regs) : (advance r).upc = r.upc + 1 := rfl
@[simp] theorem advance_osri (r : Regs) : (advance r).osri = r.osri := rfl
@[simp] theorem advance_devAddr (r : Regs) : (advance r).devAddr = r.devAddr := rfl
@[simp] theorem advance_cal (r : Regs) : (advance r).cal = r.cal := rfl
@[simp] theorem advance_w (r : Regs) : (advance r).w = r.w := rfl
@[simp] theorem advance_acc (r : Regs) : (advance r).acc = r.acc := rfl
@[simp] theorem advance_crcComputed (r : Regs) : (advance r).crcComputed = r.crcComputed := rfl
@[simp] theorem advance_crcStored (r : Regs) : (advance r).crcStored = r.crcStored := rfl
@[simp] theorem advance_d1 (r : Regs) : (advance r).d1 = r.d1 := rfl
@[simp] theorem advance_d2 (r : Regs) : (advance r).d2 = r.d2 := rfl
@[simp] theorem advance_datapath (r : Regs) : (advance r).datapath = r.datapath := rfl
@[simp] theorem advance_out (r : Regs) : (advance r).out = r.out := rfl
@[simp] theorem advance_sampleValid (r : Regs) : (advance r).sampleValid = r.sampleValid := rfl
@[simp] theorem advance_status (r : Regs) : (advance r).status = r.status := rfl
@[simp] theorem advance_errInfo (r : Regs) : (advance r).errInfo = r.errInfo := rfl
@[simp] theorem advance_errCmd (r : Regs) : (advance r).errCmd = r.errCmd := rfl

@[simp] theorem putWord_mode (k : Fin 8) (v : U16) (r : Regs) : (putWord k v r).mode = r.mode := rfl
@[simp] theorem putWord_busy (k : Fin 8) (v : U16) (r : Regs) : (putWord k v r).busy = r.busy := rfl
@[simp] theorem putWord_op (k : Fin 8) (v : U16) (r : Regs) : (putWord k v r).op = r.op := rfl
@[simp] theorem putWord_upc (k : Fin 8) (v : U16) (r : Regs) : (putWord k v r).upc = r.upc := rfl
@[simp] theorem putWord_osri (k : Fin 8) (v : U16) (r : Regs) : (putWord k v r).osri = r.osri := rfl
@[simp] theorem putWord_devAddr (k : Fin 8) (v : U16) (r : Regs) : (putWord k v r).devAddr = r.devAddr := rfl
@[simp] theorem putWord_cal (k : Fin 8) (v : U16) (r : Regs) : (putWord k v r).cal = r.cal := rfl
@[simp] theorem putWord_w (k : Fin 8) (v : U16) (r : Regs) : (putWord k v r).w = r.w.set k (some v) := rfl
@[simp] theorem putWord_acc (k : Fin 8) (v : U16) (r : Regs) : (putWord k v r).acc = r.acc := rfl
@[simp] theorem putWord_crcComputed (k : Fin 8) (v : U16) (r : Regs) : (putWord k v r).crcComputed = r.crcComputed := rfl
@[simp] theorem putWord_crcStored (k : Fin 8) (v : U16) (r : Regs) : (putWord k v r).crcStored = r.crcStored := rfl
@[simp] theorem putWord_d1 (k : Fin 8) (v : U16) (r : Regs) : (putWord k v r).d1 = r.d1 := rfl
@[simp] theorem putWord_d2 (k : Fin 8) (v : U16) (r : Regs) : (putWord k v r).d2 = r.d2 := rfl
@[simp] theorem putWord_datapath (k : Fin 8) (v : U16) (r : Regs) : (putWord k v r).datapath = r.datapath := rfl
@[simp] theorem putWord_out (k : Fin 8) (v : U16) (r : Regs) : (putWord k v r).out = r.out := rfl
@[simp] theorem putWord_sampleValid (k : Fin 8) (v : U16) (r : Regs) : (putWord k v r).sampleValid = r.sampleValid := rfl
@[simp] theorem putWord_status (k : Fin 8) (v : U16) (r : Regs) : (putWord k v r).status = r.status := rfl
@[simp] theorem putWord_errInfo (k : Fin 8) (v : U16) (r : Regs) : (putWord k v r).errInfo = r.errInfo := rfl
@[simp] theorem putWord_errCmd (k : Fin 8) (v : U16) (r : Regs) : (putWord k v r).errCmd = r.errCmd := rfl

@[simp] theorem markFailed_mode (r : Regs) : (markFailed r).mode = .failed := rfl
@[simp] theorem markFailed_busy (r : Regs) : (markFailed r).busy = r.busy := rfl
@[simp] theorem markFailed_op (r : Regs) : (markFailed r).op = r.op := rfl
@[simp] theorem markFailed_upc (r : Regs) : (markFailed r).upc = r.upc := rfl
@[simp] theorem markFailed_osri (r : Regs) : (markFailed r).osri = r.osri := rfl
@[simp] theorem markFailed_devAddr (r : Regs) : (markFailed r).devAddr = r.devAddr := rfl
@[simp] theorem markFailed_cal (r : Regs) : (markFailed r).cal = r.cal := rfl
@[simp] theorem markFailed_w (r : Regs) : (markFailed r).w = r.w := rfl
@[simp] theorem markFailed_acc (r : Regs) : (markFailed r).acc = r.acc := rfl
@[simp] theorem markFailed_crcComputed (r : Regs) : (markFailed r).crcComputed = r.crcComputed := rfl
@[simp] theorem markFailed_crcStored (r : Regs) : (markFailed r).crcStored = r.crcStored := rfl
@[simp] theorem markFailed_d1 (r : Regs) : (markFailed r).d1 = r.d1 := rfl
@[simp] theorem markFailed_d2 (r : Regs) : (markFailed r).d2 = r.d2 := rfl
@[simp] theorem markFailed_datapath (r : Regs) : (markFailed r).datapath = r.datapath := rfl
@[simp] theorem markFailed_out (r : Regs) : (markFailed r).out = r.out := rfl
@[simp] theorem markFailed_sampleValid (r : Regs) : (markFailed r).sampleValid = r.sampleValid := rfl
@[simp] theorem markFailed_status (r : Regs) : (markFailed r).status = r.status := rfl
@[simp] theorem markFailed_errInfo (r : Regs) : (markFailed r).errInfo = r.errInfo := rfl
@[simp] theorem markFailed_errCmd (r : Regs) : (markFailed r).errCmd = r.errCmd := rfl

@[simp] theorem raiseRegs_mode (k : ErrorKind) (r : Regs) : (raiseRegs k r).mode = r.mode := rfl
@[simp] theorem raiseRegs_busy (k : ErrorKind) (r : Regs) : (raiseRegs k r).busy = false := rfl
@[simp] theorem raiseRegs_op (k : ErrorKind) (r : Regs) : (raiseRegs k r).op = .none := rfl
@[simp] theorem raiseRegs_upc (k : ErrorKind) (r : Regs) : (raiseRegs k r).upc = 0 := rfl
@[simp] theorem raiseRegs_osri (k : ErrorKind) (r : Regs) : (raiseRegs k r).osri = r.osri := rfl
@[simp] theorem raiseRegs_devAddr (k : ErrorKind) (r : Regs) : (raiseRegs k r).devAddr = r.devAddr := rfl
@[simp] theorem raiseRegs_cal (k : ErrorKind) (r : Regs) : (raiseRegs k r).cal = r.cal := rfl
@[simp] theorem raiseRegs_w (k : ErrorKind) (r : Regs) : (raiseRegs k r).w = r.w := rfl
@[simp] theorem raiseRegs_acc (k : ErrorKind) (r : Regs) : (raiseRegs k r).acc = r.acc := rfl
@[simp] theorem raiseRegs_crcComputed (k : ErrorKind) (r : Regs) : (raiseRegs k r).crcComputed = r.crcComputed := rfl
@[simp] theorem raiseRegs_crcStored (k : ErrorKind) (r : Regs) : (raiseRegs k r).crcStored = r.crcStored := rfl
@[simp] theorem raiseRegs_d1 (k : ErrorKind) (r : Regs) : (raiseRegs k r).d1 = r.d1 := rfl
@[simp] theorem raiseRegs_d2 (k : ErrorKind) (r : Regs) : (raiseRegs k r).d2 = r.d2 := rfl
@[simp] theorem raiseRegs_datapath (k : ErrorKind) (r : Regs) : (raiseRegs k r).datapath = r.datapath := rfl
@[simp] theorem raiseRegs_out (k : ErrorKind) (r : Regs) : (raiseRegs k r).out = r.out := rfl
@[simp] theorem raiseRegs_sampleValid (k : ErrorKind) (r : Regs) : (raiseRegs k r).sampleValid = r.sampleValid := rfl
@[simp] theorem raiseRegs_status (k : ErrorKind) (r : Regs) : (raiseRegs k r).status = errorStatus k := rfl
@[simp] theorem raiseRegs_errInfo (k : ErrorKind) (r : Regs) : (raiseRegs k r).errInfo = errorInfo k := rfl
@[simp] theorem raiseRegs_errCmd (k : ErrorKind) (r : Regs) : (raiseRegs k r).errCmd = errorCmd k := rfl

@[simp] theorem doneRegs_mode (r : Regs) : (doneRegs r).mode = r.mode := rfl
@[simp] theorem doneRegs_busy (r : Regs) : (doneRegs r).busy = false := rfl
@[simp] theorem doneRegs_op (r : Regs) : (doneRegs r).op = .none := rfl
@[simp] theorem doneRegs_upc (r : Regs) : (doneRegs r).upc = 0 := rfl
@[simp] theorem doneRegs_osri (r : Regs) : (doneRegs r).osri = r.osri := rfl
@[simp] theorem doneRegs_devAddr (r : Regs) : (doneRegs r).devAddr = r.devAddr := rfl
@[simp] theorem doneRegs_cal (r : Regs) : (doneRegs r).cal = r.cal := rfl
@[simp] theorem doneRegs_w (r : Regs) : (doneRegs r).w = r.w := rfl
@[simp] theorem doneRegs_acc (r : Regs) : (doneRegs r).acc = r.acc := rfl
@[simp] theorem doneRegs_crcComputed (r : Regs) : (doneRegs r).crcComputed = r.crcComputed := rfl
@[simp] theorem doneRegs_crcStored (r : Regs) : (doneRegs r).crcStored = r.crcStored := rfl
@[simp] theorem doneRegs_d1 (r : Regs) : (doneRegs r).d1 = r.d1 := rfl
@[simp] theorem doneRegs_d2 (r : Regs) : (doneRegs r).d2 = r.d2 := rfl
@[simp] theorem doneRegs_datapath (r : Regs) : (doneRegs r).datapath = r.datapath := rfl
@[simp] theorem doneRegs_out (r : Regs) : (doneRegs r).out = r.out := rfl
@[simp] theorem doneRegs_sampleValid (r : Regs) : (doneRegs r).sampleValid = r.sampleValid := rfl
@[simp] theorem doneRegs_status (r : Regs) : (doneRegs r).status = .ok := rfl
@[simp] theorem doneRegs_errInfo (r : Regs) : (doneRegs r).errInfo = none := rfl
@[simp] theorem doneRegs_errCmd (r : Regs) : (doneRegs r).errCmd = none := rfl

@[simp] theorem recordCheck_mode (w : PromWords) (r : Regs) : (recordCheck w r).mode = r.mode := rfl
@[simp] theorem recordCheck_busy (w : PromWords) (r : Regs) : (recordCheck w r).busy = r.busy := rfl
@[simp] theorem recordCheck_op (w : PromWords) (r : Regs) : (recordCheck w r).op = r.op := rfl
@[simp] theorem recordCheck_upc (w : PromWords) (r : Regs) : (recordCheck w r).upc = r.upc := rfl
@[simp] theorem recordCheck_osri (w : PromWords) (r : Regs) : (recordCheck w r).osri = r.osri := rfl
@[simp] theorem recordCheck_devAddr (w : PromWords) (r : Regs) : (recordCheck w r).devAddr = r.devAddr := rfl
@[simp] theorem recordCheck_cal (w : PromWords) (r : Regs) : (recordCheck w r).cal = r.cal := rfl
@[simp] theorem recordCheck_w (w : PromWords) (r : Regs) : (recordCheck w r).w = r.w := rfl
@[simp] theorem recordCheck_acc (w : PromWords) (r : Regs) : (recordCheck w r).acc = none := rfl
@[simp] theorem recordCheck_crcComputed (w : PromWords) (r : Regs) : (recordCheck w r).crcComputed = some (crc4 w) := rfl
@[simp] theorem recordCheck_crcStored (w : PromWords) (r : Regs) : (recordCheck w r).crcStored = some (storedNibble w) := rfl
@[simp] theorem recordCheck_d1 (w : PromWords) (r : Regs) : (recordCheck w r).d1 = r.d1 := rfl
@[simp] theorem recordCheck_d2 (w : PromWords) (r : Regs) : (recordCheck w r).d2 = r.d2 := rfl
@[simp] theorem recordCheck_datapath (w : PromWords) (r : Regs) : (recordCheck w r).datapath = r.datapath := rfl
@[simp] theorem recordCheck_out (w : PromWords) (r : Regs) : (recordCheck w r).out = r.out := rfl
@[simp] theorem recordCheck_sampleValid (w : PromWords) (r : Regs) : (recordCheck w r).sampleValid = r.sampleValid := rfl
@[simp] theorem recordCheck_status (w : PromWords) (r : Regs) : (recordCheck w r).status = r.status := rfl
@[simp] theorem recordCheck_errInfo (w : PromWords) (r : Regs) : (recordCheck w r).errInfo = r.errInfo := rfl
@[simp] theorem recordCheck_errCmd (w : PromWords) (r : Regs) : (recordCheck w r).errCmd = r.errCmd := rfl

@[simp] theorem acceptCalibration_mode (w : PromWords) (r : Regs) : (acceptCalibration w r).mode = .ready := rfl
@[simp] theorem acceptCalibration_busy (w : PromWords) (r : Regs) : (acceptCalibration w r).busy = r.busy := rfl
@[simp] theorem acceptCalibration_op (w : PromWords) (r : Regs) : (acceptCalibration w r).op = r.op := rfl
@[simp] theorem acceptCalibration_upc (w : PromWords) (r : Regs) : (acceptCalibration w r).upc = r.upc := rfl
@[simp] theorem acceptCalibration_osri (w : PromWords) (r : Regs) : (acceptCalibration w r).osri = r.osri := rfl
@[simp] theorem acceptCalibration_devAddr (w : PromWords) (r : Regs) : (acceptCalibration w r).devAddr = r.devAddr := rfl
@[simp] theorem acceptCalibration_cal (w : PromWords) (r : Regs) : (acceptCalibration w r).cal = some (calibrationOf w) := rfl
@[simp] theorem acceptCalibration_w (w : PromWords) (r : Regs) : (acceptCalibration w r).w = dropOuterWords r.w := rfl
@[simp] theorem acceptCalibration_acc (w : PromWords) (r : Regs) : (acceptCalibration w r).acc = r.acc := rfl
@[simp] theorem acceptCalibration_crcComputed (w : PromWords) (r : Regs) : (acceptCalibration w r).crcComputed = r.crcComputed := rfl
@[simp] theorem acceptCalibration_crcStored (w : PromWords) (r : Regs) : (acceptCalibration w r).crcStored = r.crcStored := rfl
@[simp] theorem acceptCalibration_d1 (w : PromWords) (r : Regs) : (acceptCalibration w r).d1 = r.d1 := rfl
@[simp] theorem acceptCalibration_d2 (w : PromWords) (r : Regs) : (acceptCalibration w r).d2 = r.d2 := rfl
@[simp] theorem acceptCalibration_datapath (w : PromWords) (r : Regs) : (acceptCalibration w r).datapath = r.datapath := rfl
@[simp] theorem acceptCalibration_out (w : PromWords) (r : Regs) : (acceptCalibration w r).out = r.out := rfl
@[simp] theorem acceptCalibration_sampleValid (w : PromWords) (r : Regs) : (acceptCalibration w r).sampleValid = r.sampleValid := rfl
@[simp] theorem acceptCalibration_status (w : PromWords) (r : Regs) : (acceptCalibration w r).status = r.status := rfl
@[simp] theorem acceptCalibration_errInfo (w : PromWords) (r : Regs) : (acceptCalibration w r).errInfo = r.errInfo := rfl
@[simp] theorem acceptCalibration_errCmd (w : PromWords) (r : Regs) : (acceptCalibration w r).errCmd = r.errCmd := rfl

@[simp] theorem putSample_mode (p : Params) (v : Compensated) (r : Regs) : (putSample p v r).mode = r.mode := rfl
@[simp] theorem putSample_busy (p : Params) (v : Compensated) (r : Regs) : (putSample p v r).busy = r.busy := rfl
@[simp] theorem putSample_op (p : Params) (v : Compensated) (r : Regs) : (putSample p v r).op = r.op := rfl
@[simp] theorem putSample_upc (p : Params) (v : Compensated) (r : Regs) : (putSample p v r).upc = r.upc := rfl
@[simp] theorem putSample_osri (p : Params) (v : Compensated) (r : Regs) : (putSample p v r).osri = r.osri := rfl
@[simp] theorem putSample_devAddr (p : Params) (v : Compensated) (r : Regs) : (putSample p v r).devAddr = r.devAddr := rfl
@[simp] theorem putSample_cal (p : Params) (v : Compensated) (r : Regs) : (putSample p v r).cal = r.cal := rfl
@[simp] theorem putSample_w (p : Params) (v : Compensated) (r : Regs) : (putSample p v r).w = r.w := rfl
@[simp] theorem putSample_acc (p : Params) (v : Compensated) (r : Regs) : (putSample p v r).acc = r.acc := rfl
@[simp] theorem putSample_crcComputed (p : Params) (v : Compensated) (r : Regs) : (putSample p v r).crcComputed = r.crcComputed := rfl
@[simp] theorem putSample_crcStored (p : Params) (v : Compensated) (r : Regs) : (putSample p v r).crcStored = r.crcStored := rfl
@[simp] theorem putSample_d1 (p : Params) (v : Compensated) (r : Regs) : (putSample p v r).d1 = r.d1 := rfl
@[simp] theorem putSample_d2 (p : Params) (v : Compensated) (r : Regs) : (putSample p v r).d2 = r.d2 := rfl
@[simp] theorem putSample_datapath (p : Params) (v : Compensated) (r : Regs) : (putSample p v r).datapath = some (datapathOf v) := rfl
@[simp] theorem putSample_out (p : Params) (v : Compensated) (r : Regs) : (putSample p v r).out = some (outputsOf p (datapathOf v)) := rfl
@[simp] theorem putSample_sampleValid (p : Params) (v : Compensated) (r : Regs) : (putSample p v r).sampleValid = true := rfl
@[simp] theorem putSample_status (p : Params) (v : Compensated) (r : Regs) : (putSample p v r).status = r.status := rfl
@[simp] theorem putSample_errInfo (p : Params) (v : Compensated) (r : Regs) : (putSample p v r).errInfo = r.errInfo := rfl
@[simp] theorem putSample_errCmd (p : Params) (v : Compensated) (r : Regs) : (putSample p v r).errCmd = r.errCmd := rfl

@[simp] theorem startInit_mode (a0 : Bool) (r : Regs) : (startInit a0 r).mode = .uninit := rfl
@[simp] theorem startInit_busy (a0 : Bool) (r : Regs) : (startInit a0 r).busy = true := rfl
@[simp] theorem startInit_op (a0 : Bool) (r : Regs) : (startInit a0 r).op = .init := rfl
@[simp] theorem startInit_upc (a0 : Bool) (r : Regs) : (startInit a0 r).upc = 0 := rfl
@[simp] theorem startInit_osri (a0 : Bool) (r : Regs) : (startInit a0 r).osri = r.osri := rfl
@[simp] theorem startInit_devAddr (a0 : Bool) (r : Regs) : (startInit a0 r).devAddr = some (addressOf a0) := rfl
@[simp] theorem startInit_cal (a0 : Bool) (r : Regs) : (startInit a0 r).cal = none := rfl
@[simp] theorem startInit_w (a0 : Bool) (r : Regs) : (startInit a0 r).w = r.w := rfl
@[simp] theorem startInit_acc (a0 : Bool) (r : Regs) : (startInit a0 r).acc = r.acc := rfl
@[simp] theorem startInit_crcComputed (a0 : Bool) (r : Regs) : (startInit a0 r).crcComputed = r.crcComputed := rfl
@[simp] theorem startInit_crcStored (a0 : Bool) (r : Regs) : (startInit a0 r).crcStored = r.crcStored := rfl
@[simp] theorem startInit_d1 (a0 : Bool) (r : Regs) : (startInit a0 r).d1 = r.d1 := rfl
@[simp] theorem startInit_d2 (a0 : Bool) (r : Regs) : (startInit a0 r).d2 = r.d2 := rfl
@[simp] theorem startInit_datapath (a0 : Bool) (r : Regs) : (startInit a0 r).datapath = r.datapath := rfl
@[simp] theorem startInit_out (a0 : Bool) (r : Regs) : (startInit a0 r).out = r.out := rfl
@[simp] theorem startInit_sampleValid (a0 : Bool) (r : Regs) : (startInit a0 r).sampleValid = false := rfl
@[simp] theorem startInit_status (a0 : Bool) (r : Regs) : (startInit a0 r).status = r.status := rfl
@[simp] theorem startInit_errInfo (a0 : Bool) (r : Regs) : (startInit a0 r).errInfo = r.errInfo := rfl
@[simp] theorem startInit_errCmd (a0 : Bool) (r : Regs) : (startInit a0 r).errCmd = r.errCmd := rfl

@[simp] theorem startReset_mode (r : Regs) : (startReset r).mode = r.mode := rfl
@[simp] theorem startReset_busy (r : Regs) : (startReset r).busy = true := rfl
@[simp] theorem startReset_op (r : Regs) : (startReset r).op = .reset := rfl
@[simp] theorem startReset_upc (r : Regs) : (startReset r).upc = 0 := rfl
@[simp] theorem startReset_osri (r : Regs) : (startReset r).osri = r.osri := rfl
@[simp] theorem startReset_devAddr (r : Regs) : (startReset r).devAddr = r.devAddr := rfl
@[simp] theorem startReset_cal (r : Regs) : (startReset r).cal = r.cal := rfl
@[simp] theorem startReset_w (r : Regs) : (startReset r).w = r.w := rfl
@[simp] theorem startReset_acc (r : Regs) : (startReset r).acc = r.acc := rfl
@[simp] theorem startReset_crcComputed (r : Regs) : (startReset r).crcComputed = r.crcComputed := rfl
@[simp] theorem startReset_crcStored (r : Regs) : (startReset r).crcStored = r.crcStored := rfl
@[simp] theorem startReset_d1 (r : Regs) : (startReset r).d1 = r.d1 := rfl
@[simp] theorem startReset_d2 (r : Regs) : (startReset r).d2 = r.d2 := rfl
@[simp] theorem startReset_datapath (r : Regs) : (startReset r).datapath = r.datapath := rfl
@[simp] theorem startReset_out (r : Regs) : (startReset r).out = r.out := rfl
@[simp] theorem startReset_sampleValid (r : Regs) : (startReset r).sampleValid = r.sampleValid := rfl
@[simp] theorem startReset_status (r : Regs) : (startReset r).status = r.status := rfl
@[simp] theorem startReset_errInfo (r : Regs) : (startReset r).errInfo = r.errInfo := rfl
@[simp] theorem startReset_errCmd (r : Regs) : (startReset r).errCmd = r.errCmd := rfl

@[simp] theorem startReadSample_mode (i : U3) (r : Regs) : (startReadSample i r).mode = r.mode := rfl
@[simp] theorem startReadSample_busy (i : U3) (r : Regs) : (startReadSample i r).busy = true := rfl
@[simp] theorem startReadSample_op (i : U3) (r : Regs) : (startReadSample i r).op = .readSample := rfl
@[simp] theorem startReadSample_upc (i : U3) (r : Regs) : (startReadSample i r).upc = 0 := rfl
@[simp] theorem startReadSample_osri (i : U3) (r : Regs) : (startReadSample i r).osri = some i := rfl
@[simp] theorem startReadSample_devAddr (i : U3) (r : Regs) : (startReadSample i r).devAddr = r.devAddr := rfl
@[simp] theorem startReadSample_cal (i : U3) (r : Regs) : (startReadSample i r).cal = r.cal := rfl
@[simp] theorem startReadSample_w (i : U3) (r : Regs) : (startReadSample i r).w = r.w := rfl
@[simp] theorem startReadSample_acc (i : U3) (r : Regs) : (startReadSample i r).acc = r.acc := rfl
@[simp] theorem startReadSample_crcComputed (i : U3) (r : Regs) : (startReadSample i r).crcComputed = r.crcComputed := rfl
@[simp] theorem startReadSample_crcStored (i : U3) (r : Regs) : (startReadSample i r).crcStored = r.crcStored := rfl
@[simp] theorem startReadSample_d1 (i : U3) (r : Regs) : (startReadSample i r).d1 = r.d1 := rfl
@[simp] theorem startReadSample_d2 (i : U3) (r : Regs) : (startReadSample i r).d2 = r.d2 := rfl
@[simp] theorem startReadSample_datapath (i : U3) (r : Regs) : (startReadSample i r).datapath = r.datapath := rfl
@[simp] theorem startReadSample_out (i : U3) (r : Regs) : (startReadSample i r).out = r.out := rfl
@[simp] theorem startReadSample_sampleValid (i : U3) (r : Regs) : (startReadSample i r).sampleValid = false := rfl
@[simp] theorem startReadSample_status (i : U3) (r : Regs) : (startReadSample i r).status = r.status := rfl
@[simp] theorem startReadSample_errInfo (i : U3) (r : Regs) : (startReadSample i r).errInfo = r.errInfo := rfl
@[simp] theorem startReadSample_errCmd (i : U3) (r : Regs) : (startReadSample i r).errCmd = r.errCmd := rfl

@[simp] theorem putRaw_mode (v : S32) (r : Regs) : (putRaw v r).mode = r.mode := by unfold putRaw; split <;> rfl
@[simp] theorem putRaw_busy (v : S32) (r : Regs) : (putRaw v r).busy = r.busy := by unfold putRaw; split <;> rfl
@[simp] theorem putRaw_op (v : S32) (r : Regs) : (putRaw v r).op = r.op := by unfold putRaw; split <;> rfl
@[simp] theorem putRaw_upc (v : S32) (r : Regs) : (putRaw v r).upc = r.upc := by unfold putRaw; split <;> rfl
@[simp] theorem putRaw_osri (v : S32) (r : Regs) : (putRaw v r).osri = r.osri := by unfold putRaw; split <;> rfl
@[simp] theorem putRaw_devAddr (v : S32) (r : Regs) : (putRaw v r).devAddr = r.devAddr := by unfold putRaw; split <;> rfl
@[simp] theorem putRaw_cal (v : S32) (r : Regs) : (putRaw v r).cal = r.cal := by unfold putRaw; split <;> rfl
@[simp] theorem putRaw_w (v : S32) (r : Regs) : (putRaw v r).w = r.w := by unfold putRaw; split <;> rfl
@[simp] theorem putRaw_acc (v : S32) (r : Regs) : (putRaw v r).acc = r.acc := by unfold putRaw; split <;> rfl
@[simp] theorem putRaw_crcComputed (v : S32) (r : Regs) : (putRaw v r).crcComputed = r.crcComputed := by unfold putRaw; split <;> rfl
@[simp] theorem putRaw_crcStored (v : S32) (r : Regs) : (putRaw v r).crcStored = r.crcStored := by unfold putRaw; split <;> rfl
@[simp] theorem putRaw_datapath (v : S32) (r : Regs) : (putRaw v r).datapath = r.datapath := by unfold putRaw; split <;> rfl
@[simp] theorem putRaw_out (v : S32) (r : Regs) : (putRaw v r).out = r.out := by unfold putRaw; split <;> rfl
@[simp] theorem putRaw_sampleValid (v : S32) (r : Regs) : (putRaw v r).sampleValid = r.sampleValid := by unfold putRaw; split <;> rfl
@[simp] theorem putRaw_status (v : S32) (r : Regs) : (putRaw v r).status = r.status := by unfold putRaw; split <;> rfl
@[simp] theorem putRaw_errInfo (v : S32) (r : Regs) : (putRaw v r).errInfo = r.errInfo := by unfold putRaw; split <;> rfl
@[simp] theorem putRaw_errCmd (v : S32) (r : Regs) : (putRaw v r).errCmd = r.errCmd := by unfold putRaw; split <;> rfl

theorem putRaw_pressure (v : S32) (r : Regs) (h : r.upc = 2) : putRaw v r = { r with d1 := some v } := if_pos h

theorem putRaw_temperature (v : S32) (r : Regs) (h : r.upc ≠ 2) : putRaw v r = { r with d2 := some v } := if_neg h

/-! ## The transport -/

theorem nextAnswer_cons (s : State) (a : BusAnswer) (rest : List BusAnswer) (h : s.answers = a :: rest) :
    nextAnswer s = a := by simp [nextAnswer, h]

theorem dropAnswer_cons (s : State) (a : BusAnswer) (rest : List BusAnswer) (h : s.answers = a :: rest) :
    dropAnswer s = { s with answers := rest } := by simp [dropAnswer, h]

theorem nextAnswer_nil (s : State) (h : s.answers = []) : nextAnswer s = Config.transportAnswer s.draws := by
  simp [nextAnswer, h]

theorem dropAnswer_nil (s : State) (h : s.answers = []) : dropAnswer s = { s with draws := s.draws + 1 } := by
  simp [dropAnswer, h]

end Sys2Proof.Laws
end

