-- ==== Sys2Proof/Laws/Ops.lean ====
section
/-! SUPPORT. For each shared operation, once: everything it can do. Later proofs cite these instead of unfolding the
operation. -/

namespace Sys2Proof.Laws

open Sys2Proof Sys2Proof.Machine

/-! ## Lookups and the current action -/

/-- A lookup succeeds exactly on a latched index 0 to 4 and gives that index's entry. -/
theorem osrLookup_eq_ok (o : Option U3) (e : OsrEntry) :
    osrLookup o = .ok e ↔ ∃ i, o = some i ∧ osrEntry i = some e := by
  cases o with
  | none => simp [osrLookup]
  | some i => cases h : osrEntry i <;> simp [osrLookup, h]

/-- Every legal index has an entry. -/
theorem osrEntry_of_wf : ∀ i : U3, osrIndexWf i = true → ∃ e, osrEntry i = some e ∧ e ∈ osrRom := by decide

/-- The entry of an index gives the conversion bytes of that index (R46, R48). -/
theorem command_of_osrEntry (i : U3) (e : OsrEntry) (h : osrEntry i = some e) :
    pressureCommand e = joinBus (.conv false i) ∧ temperatureCommand e = joinBus (.conv true i) := by
  have key : ∀ j : U3, (osrEntry j).all (fun e =>
      pressureCommand e == joinBus (.conv false j) && temperatureCommand e == joinBus (.conv true j)) = true := by decide
  have := key i
  rw [h] at this
  simpa using this

/-- A byte the decoder takes for a sensor command is that command's own byte. -/
theorem encode_of_decodeBus (c : Byte) (i : Instr) (h : decodeBus c = .ok i) : encode i = c := by
  have key : ∀ b : Byte, (match decodeBus b with | .ok j => encode j == b | .error _ => true) = true := by decide
  have := key c
  rw [h] at this
  simpa using this

/-- What the sequencer's next action can be: one row of R89's lists. -/
theorem currentAction_eq_ok (p : Params) (r : Regs) (act : Action) (h : currentAction p r = .ok act) :
    (r.op = .init ∧ r.upc.toNat < 8 ∧ act = .bus (promCommand r.upc.toNat)) ∨
    (r.op = .init ∧ r.upc = 8 ∧ act = .crcCheck) ∨
    (r.op = .reset ∧ r.upc = 0 ∧ act = .bus resetCommand) ∨
    (r.op = .reset ∧ r.upc = 1 ∧ act = .delay p.resetDelayMs) ∨
    (∃ i e, r.op = .readSample ∧ r.osri = some i ∧ osrEntry i = some e ∧
      ((r.upc = 0 ∧ act = .bus (pressureCommand e)) ∨ (r.upc = 1 ∧ act = .delay e.wait) ∨
       (r.upc = 3 ∧ act = .bus (temperatureCommand e)) ∨ (r.upc = 4 ∧ act = .delay e.wait))) ∨
    (r.op = .readSample ∧ (r.upc = 2 ∨ r.upc = 5) ∧ act = .bus adcReadCommand) ∨
    (r.op = .readSample ∧ r.upc = 6 ∧ act = .compensate) := by
  have lk : ∀ f : OsrEntry → Action, (osrLookup r.osri).map f = .ok act →
      ∃ i e, r.osri = some i ∧ osrEntry i = some e ∧ act = f e := by
    intro f hf
    cases hl : osrLookup r.osri with
    | error x => simp [hl, Except.map] at hf
    | ok e =>
      obtain ⟨i, hi, he⟩ := (osrLookup_eq_ok _ _).1 hl
      simp [hl, Except.map] at hf
      exact ⟨i, e, hi, he, hf.symm⟩
  have up : ∀ n : Nat, n < 16 → r.upc.toNat = n → r.upc = BitVec.ofNat 4 n := by
    intro n hn hu
    apply BitVec.eq_of_toNat_eq
    simp [hu, Nat.mod_eq_of_lt hn]
  unfold currentAction at h
  split at h
  all_goals first
    | (injection h with h; subst h
       rename_i h1 h2
       simp [h1, up _ (by omega) h2])
    | skip
  all_goals first
    | (rename_i h1 h2
       obtain ⟨i, e, hi, he, rfl⟩ := lk _ h
       have := up _ (by omega) h2
       refine .inr (.inr (.inr (.inr (.inl ⟨i, e, h1, hi, he, ?_⟩))))
       simp [this])
    | skip
  · rename_i h1 h2 h3
    split at h
    · injection h with h
      subst h
      left
      exact ⟨by assumption, by omega, rfl⟩
    · simp at h
  · simp at h

/-- A byte of one family of sensor commands is a byte of no other. -/
theorem command_families_apart : ∀ k : Fin 8, promCommand k ≠ resetCommand ∧ promCommand k ≠ adcReadCommand ∧
    ∀ i : U3, promCommand k ≠ joinBus (.conv false i) ∧ promCommand k ≠ joinBus (.conv true i) ∧
      adcReadCommand ≠ joinBus (.conv false i) ∧ adcReadCommand ≠ joinBus (.conv true i) := by decide

/-- Different PROM words have different command bytes. -/
theorem promCommand_injective : ∀ n m : Fin 8, promCommand n = promCommand m → n = m := by decide

/-- The ADC is read at READ_SAMPLE steps 2 and 5 only. -/
theorem currentAction_adcRead (p : Params) (r : Regs) (h : currentAction p r = .ok (.bus adcReadCommand)) :
    r.op = .readSample ∧ (r.upc = 2 ∨ r.upc = 5) := by
  rcases currentAction_eq_ok p r _ h with ⟨-, hu, ha⟩ | ⟨-, -, ha⟩ | ⟨-, -, ha⟩ | ⟨-, -, ha⟩ | ⟨i, e, -, -, he, ha⟩ |
    ⟨ho, hu, -⟩ | ⟨-, -, ha⟩
  · injection ha with ha
    exact absurd ha.symm (command_families_apart ⟨_, hu⟩).2.1
  · cases ha
  · injection ha with ha
    exact absurd ha (by decide)
  · cases ha
  · obtain ⟨hp, ht⟩ := command_of_osrEntry i e he
    have := (command_families_apart 0).2.2 i
    rcases ha with ⟨-, ha⟩ | ⟨-, ha⟩ | ⟨-, ha⟩ | ⟨-, ha⟩ <;> simp_all
  · exact ⟨ho, hu⟩
  · cases ha

/-- PROM word `k` is read at INIT step `k` only. -/
theorem currentAction_promRead (p : Params) (r : Regs) (k : Fin 8)
    (h : currentAction p r = .ok (.bus (promCommand k))) : r.op = .init ∧ r.upc.toNat = k.val := by
  rcases currentAction_eq_ok p r _ h with ⟨ho, hu, ha⟩ | ⟨-, -, ha⟩ | ⟨-, -, ha⟩ | ⟨-, -, ha⟩ | ⟨i, e, -, -, he, ha⟩ |
    ⟨-, -, ha⟩ | ⟨-, -, ha⟩
  · injection ha with ha
    exact ⟨ho, (congrArg Fin.val (promCommand_injective k ⟨_, hu⟩ ha)).symm⟩
  · cases ha
  · injection ha with ha
    exact absurd ha (command_families_apart k).1
  · cases ha
  · obtain ⟨hp, ht⟩ := command_of_osrEntry i e he
    have := (command_families_apart k).2.2 i
    rcases ha with ⟨-, ha⟩ | ⟨-, ha⟩ | ⟨-, ha⟩ | ⟨-, ha⟩ <;> simp_all
  · injection ha with ha
    exact absurd ha (command_families_apart k).2.1
  · cases ha

/-- The check is INIT step 8. -/
theorem currentAction_crcCheck (p : Params) (r : Regs) (h : currentAction p r = .ok .crcCheck) :
    r.op = .init ∧ r.upc = 8 := by
  rcases currentAction_eq_ok p r _ h with ⟨-, -, ha⟩ | ⟨ho, hu, -⟩ | ⟨-, -, ha⟩ | ⟨-, -, ha⟩ | ⟨i, e, -, -, -, ha⟩ |
    ⟨-, -, ha⟩ | ⟨-, -, ha⟩ <;> simp_all

/-- The compensation is READ_SAMPLE step 6. -/
theorem currentAction_compensate (p : Params) (r : Regs) (h : currentAction p r = .ok .compensate) :
    r.op = .readSample ∧ r.upc = 6 := by
  rcases currentAction_eq_ok p r _ h with ⟨-, -, ha⟩ | ⟨-, -, ha⟩ | ⟨-, -, ha⟩ | ⟨-, -, ha⟩ | ⟨i, e, -, -, -, ha⟩ |
    ⟨-, -, ha⟩ | ⟨ho, hu, -⟩ <;> simp_all

/-- The delays are RESET step 1 and READ_SAMPLE steps 1 and 4, with the parameter and with the latched level's wait. -/
theorem currentAction_delay (p : Params) (r : Regs) (ms : Byte) (h : currentAction p r = .ok (.delay ms)) :
    (r.op = .reset ∧ r.upc = 1 ∧ ms = p.resetDelayMs) ∨
    (r.op = .readSample ∧ (r.upc = 1 ∨ r.upc = 4) ∧ ∃ i e, r.osri = some i ∧ osrEntry i = some e ∧ ms = e.wait) := by
  rcases currentAction_eq_ok p r _ h with ⟨-, -, ha⟩ | ⟨-, -, ha⟩ | ⟨-, -, ha⟩ | ⟨ho, hu, ha⟩ | ⟨i, e, ho, hi, he, ha⟩ |
    ⟨-, -, ha⟩ | ⟨-, -, ha⟩ <;> simp_all
  rcases ha with ⟨h, hw⟩ | ⟨h, hw⟩ <;> simp [h, hw]

/-- The sequencer is at the step that emits `c`: it is busy and `c` is its next action's byte. -/
theorem emits_iff (c : Byte) (s : State) :
    emits c s = true ↔ s.regs.busy = true ∧ currentAction s.params s.regs = .ok (.bus c) := by
  unfold emits
  split
  · rename_i c' h
    simp [h]
  · rename_i h
    constructor
    · intro h'; simp at h'
    · rintro ⟨-, h'⟩; exact absurd h' (h c)

/-! ## Transactions -/

@[simp] theorem busWrite_answer (a c : Byte) (s : State) : (busWrite a c s).1 = nextAnswer s := rfl

@[simp] theorem busWriteRead_answer (a c : Byte) (n : Nat) (s : State) : (busWriteRead a c n s).1 = nextAnswer s := rfl

/-- A write step whose transaction returns `Ok`. -/
theorem writeCommand_ok (c a : Byte) (s : State) (b0 b1 b2 : Byte) (h : nextAnswer s = .ok b0 b1 b2) :
    writeCommand c a s = onRegs advance (emit (.write a c (.ok [])) (dropAnswer s)) := by
  simp [writeCommand, busWrite, h, busResult]

/-- A write step whose transaction returns `Err(e)`. -/
theorem writeCommand_err (c a : Byte) (s : State) (e : TErr) (h : nextAnswer s = .err e) :
    writeCommand c a s = raise (.transport e c) (emit (.write a c (.err e)) (dropAnswer s)) := by
  simp [writeCommand, busWrite, h, busResult]

/-- An ADC read step whose transaction returns three bytes. -/
theorem adcRead_ok (a : Byte) (s : State) (b0 b1 b2 : Byte) (h : nextAnswer s = .ok b0 b1 b2) :
    adcRead a s = onRegs (fun r => advance (putRaw (rawValue b0 b1 b2) r))
      (emit (.writeRead a adcReadCommand 3 (.ok [b0, b1, b2])) (dropAnswer s)) := by
  simp [adcRead, busWriteRead, h, busResult]

/-- An ADC read step whose transaction returns `Err(e)`. -/
theorem adcRead_err (a : Byte) (s : State) (e : TErr) (h : nextAnswer s = .err e) :
    adcRead a s = raise (.transport e adcReadCommand)
      (emit (.writeRead a adcReadCommand 3 (.err e)) (dropAnswer s)) := by
  simp [adcRead, busWriteRead, h, busResult]

/-- A PROM read step whose transaction returns two bytes. -/
theorem promRead_ok (k : Fin 8) (a : Byte) (s : State) (b0 b1 b2 : Byte) (h : nextAnswer s = .ok b0 b1 b2) :
    promRead k a s = onRegs (fun r => advance (putWord k (promWord b0 b1) r))
      (emit (.writeRead a (promCommand k) 2 (.ok [b0, b1])) (dropAnswer s)) := by
  simp [promRead, busWriteRead, h, busResult]

/-- A PROM read step whose transaction returns `Err(e)`. -/
theorem promRead_err (k : Fin 8) (a : Byte) (s : State) (e : TErr) (h : nextAnswer s = .err e) :
    promRead k a s = raise (.transport e (promCommand k))
      (onRegs markFailed (emit (.writeRead a (promCommand k) 2 (.err e)) (dropAnswer s))) := by
  simp [promRead, busWriteRead, h, busResult]

/-! ## Accepting and emitting -/

/-- INIT answers a next state exactly on an idle block, and it is the accepted one. -/
theorem acceptInit_eq_next (a0 : Bool) (s t : State) :
    acceptInit a0 s = .next t ↔ s.regs.busy = false ∧ t = onRegs (startInit a0) s := by
  cases h : s.regs.busy <;> simp [acceptInit, h, eq_comm]

/-- RESET and READ_SAMPLE answer a next state exactly on an idle block: accepted in `READY`, NotReady elsewhere. -/
theorem acceptWhenReady_eq_next (f : Regs → Regs) (s t : State) :
    acceptWhenReady f s = .next t ↔ s.regs.busy = false ∧
      ((s.regs.mode = .ready ∧ t = onRegs f s) ∨ (s.regs.mode ≠ .ready ∧ t = raise .notReady s)) := by
  cases h : s.regs.busy <;> by_cases hm : s.regs.mode = .ready <;> simp [acceptWhenReady, h, hm, eq_comm]

/-- A sensor command answers a next state exactly at the step that emits it, with a device address to send to. -/
theorem emitCommand_eq_next (c : Byte) (body : Byte → State → State) (s t : State) :
    emitCommand c body s = .next t ↔ emits c s = true ∧ ∃ a, s.regs.devAddr = some a ∧ t = body a s := by
  cases h : emits c s <;> cases ha : s.regs.devAddr <;> simp [emitCommand, h, ha, eq_comm]

/-! ## Steps without an instruction -/

/-- The loader buffer's words are all there exactly when the buffer is their image. -/
theorem promWords_eq_some (v : Vector (Option U16) 8) (w : PromWords) : promWords v = some w ↔ v = w.map some := by
  have ext : ∀ (w : PromWords), v = w.map some ↔ v[0] = some w[0] ∧ v[1] = some w[1] ∧ v[2] = some w[2] ∧
      v[3] = some w[3] ∧ v[4] = some w[4] ∧ v[5] = some w[5] ∧ v[6] = some w[6] ∧ v[7] = some w[7] := by
    intro w
    constructor
    · rintro rfl; simp
    · rintro ⟨h0, h1, h2, h3, h4, h5, h6, h7⟩
      apply Vector.ext
      intro i hi
      match i, hi with
      | 0, _ => simpa using h0
      | 1, _ => simpa using h1
      | 2, _ => simpa using h2
      | 3, _ => simpa using h3
      | 4, _ => simpa using h4
      | 5, _ => simpa using h5
      | 6, _ => simpa using h6
      | 7, _ => simpa using h7
  constructor
  · intro h
    unfold promWords at h
    split at h
    · injection h with h
      subst h
      rw [ext]
      simp_all
    · simp at h
  · intro h
    have := (ext w).1 h
    obtain ⟨h0, h1, h2, h3, h4, h5, h6, h7⟩ := this
    unfold promWords
    rw [h0, h1, h2, h3, h4, h5, h6, h7]
    simp only [Option.some.injEq]
    apply Vector.ext
    intro i hi
    match i, hi with
    | 0, _ => simp
    | 1, _ => simp
    | 2, _ => simp
    | 3, _ => simp
    | 4, _ => simp
    | 5, _ => simp
    | 6, _ => simp
    | 7, _ => simp

/-- Words 1 to 6 of a full buffer stay; words 0 and 7 hold no value. -/
theorem dropOuterWords_map (w : PromWords) : dropOuterWords (w.map some) =
    #v[none, some w[1], some w[2], some w[3], some w[4], some w[5], some w[6], none] := by
  apply Vector.ext
  intro i hi
  simp only [dropOuterWords, Vector.getElem_set, Vector.getElem_map]
  match i, hi with
  | 0, _ | 1, _ | 2, _ | 3, _ | 4, _ | 5, _ | 6, _ | 7, _ => rfl

/-- The check answers a next state exactly when all eight words are there: the calibration accepted, or the checksum
error. -/
theorem crcCheck_eq_next (s t : State) :
    crcCheck s = .next t ↔ ∃ w, promWords s.regs.w = some w ∧
      ((crc4 w = storedNibble w ∧ t = doneOk (onRegs (fun r => acceptCalibration w (recordCheck w r)) s)) ∨
       (crc4 w ≠ storedNibble w ∧ t = raise .checksum (onRegs (fun r => markFailed (recordCheck w r)) s))) := by
  unfold crcCheck
  cases h : promWords s.regs.w with
  | none => simp
  | some w => by_cases hc : crc4 w = storedNibble w <;> simp [hc, eq_comm]

/-- The compensation step answers a next state exactly when `D1`, `D2` and `CAL` hold values. -/
theorem compensateStep_eq_next (s t : State) :
    compensateStep s = .next t ↔ ∃ d1 d2 c, s.regs.d1 = some d1 ∧ s.regs.d2 = some d2 ∧ s.regs.cal = some c ∧
      t = doneOk (onRegs (putSample s.params (compensate d1.toInt d2.toInt c)) s) := by
  cases h1 : s.regs.d1 <;> cases h2 : s.regs.d2 <;> cases h3 : s.regs.cal <;>
    simp [compensateStep, h1, h2, h3, eq_comm]

/-- A delay step of RESET ends the operation. -/
theorem delayStep_reset (ms : Byte) (s : State) (h : s.regs.op = .reset) :
    delayStep ms s = doneOk (delayFor ms s) := if_pos h

/-- A delay step of another operation goes on to its next step. -/
theorem delayStep_other (ms : Byte) (s : State) (h : s.regs.op ≠ .reset) :
    delayStep ms s = onRegs advance (delayFor ms s) := if_neg h

/-- A host read answers a next state exactly when the register holds a value, and only the host's log changes. -/
theorem hostRead_eq_next (h : HostReg) (s t : State) :
    hostRead h s = .next t ↔ ∃ v, readReg h s.regs = .ok v ∧ t = tellHost (.value h v) s := by
  cases hr : readReg h s.regs <;> simp [hostRead, hr, eq_comm]

end Sys2Proof.Laws
end

