-- ==== Sys2Proof/Laws/PerInstr.lean ====
section
/-! SUPPORT. The statements made per instruction. `ByteOfFields`: an instruction's fields are an encoding of its format,
and each format's splitter reads them back from the instruction's byte (30_encoding.md R44, R46). -/

namespace Sys2Proof.Laws

open Sys2Proof

/-- The fields of the instruction's byte pass the format's check and are what its splitter reads from the byte. -/
def ByteOfFields.Statement (i : Instr) : Prop :=
  (fieldsOf i).wf = true ∧
    (fieldsOf i = .host (splitHost (encode i)) ∨ some (fieldsOf i) = (splitBus (encode i)).map .bus)

theorem ByteOfFields.init77 : ByteOfFields.Statement .init77 := by unfold ByteOfFields.Statement; decide
theorem ByteOfFields.init76 : ByteOfFields.Statement .init76 := by unfold ByteOfFields.Statement; decide
theorem ByteOfFields.reset : ByteOfFields.Statement .reset := by unfold ByteOfFields.Statement; decide
theorem ByteOfFields.readSampleOsr256 : ByteOfFields.Statement .readSampleOsr256 := by unfold ByteOfFields.Statement; decide
theorem ByteOfFields.readSampleOsr512 : ByteOfFields.Statement .readSampleOsr512 := by unfold ByteOfFields.Statement; decide
theorem ByteOfFields.readSampleOsr1024 : ByteOfFields.Statement .readSampleOsr1024 := by unfold ByteOfFields.Statement; decide
theorem ByteOfFields.readSampleOsr2048 : ByteOfFields.Statement .readSampleOsr2048 := by unfold ByteOfFields.Statement; decide
theorem ByteOfFields.readSampleOsr4096 : ByteOfFields.Statement .readSampleOsr4096 := by unfold ByteOfFields.Statement; decide
theorem ByteOfFields.cmdReset : ByteOfFields.Statement .cmdReset := by unfold ByteOfFields.Statement; decide
theorem ByteOfFields.cmdConvD1Osr256 : ByteOfFields.Statement .cmdConvD1Osr256 := by unfold ByteOfFields.Statement; decide
theorem ByteOfFields.cmdConvD1Osr512 : ByteOfFields.Statement .cmdConvD1Osr512 := by unfold ByteOfFields.Statement; decide
theorem ByteOfFields.cmdConvD1Osr1024 : ByteOfFields.Statement .cmdConvD1Osr1024 := by unfold ByteOfFields.Statement; decide
theorem ByteOfFields.cmdConvD1Osr2048 : ByteOfFields.Statement .cmdConvD1Osr2048 := by unfold ByteOfFields.Statement; decide
theorem ByteOfFields.cmdConvD1Osr4096 : ByteOfFields.Statement .cmdConvD1Osr4096 := by unfold ByteOfFields.Statement; decide
theorem ByteOfFields.cmdConvD2Osr256 : ByteOfFields.Statement .cmdConvD2Osr256 := by unfold ByteOfFields.Statement; decide
theorem ByteOfFields.cmdConvD2Osr512 : ByteOfFields.Statement .cmdConvD2Osr512 := by unfold ByteOfFields.Statement; decide
theorem ByteOfFields.cmdConvD2Osr1024 : ByteOfFields.Statement .cmdConvD2Osr1024 := by unfold ByteOfFields.Statement; decide
theorem ByteOfFields.cmdConvD2Osr2048 : ByteOfFields.Statement .cmdConvD2Osr2048 := by unfold ByteOfFields.Statement; decide
theorem ByteOfFields.cmdConvD2Osr4096 : ByteOfFields.Statement .cmdConvD2Osr4096 := by unfold ByteOfFields.Statement; decide
theorem ByteOfFields.cmdAdcRead : ByteOfFields.Statement .cmdAdcRead := by unfold ByteOfFields.Statement; decide
theorem ByteOfFields.cmdPromRead0 : ByteOfFields.Statement .cmdPromRead0 := by unfold ByteOfFields.Statement; decide
theorem ByteOfFields.cmdPromRead1 : ByteOfFields.Statement .cmdPromRead1 := by unfold ByteOfFields.Statement; decide
theorem ByteOfFields.cmdPromRead2 : ByteOfFields.Statement .cmdPromRead2 := by unfold ByteOfFields.Statement; decide
theorem ByteOfFields.cmdPromRead3 : ByteOfFields.Statement .cmdPromRead3 := by unfold ByteOfFields.Statement; decide
theorem ByteOfFields.cmdPromRead4 : ByteOfFields.Statement .cmdPromRead4 := by unfold ByteOfFields.Statement; decide
theorem ByteOfFields.cmdPromRead5 : ByteOfFields.Statement .cmdPromRead5 := by unfold ByteOfFields.Statement; decide
theorem ByteOfFields.cmdPromRead6 : ByteOfFields.Statement .cmdPromRead6 := by unfold ByteOfFields.Statement; decide
theorem ByteOfFields.cmdPromRead7 : ByteOfFields.Statement .cmdPromRead7 := by unfold ByteOfFields.Statement; decide

end Sys2Proof.Laws
end

