-- ==== Sys2Proof/Laws/Step.lean ====
section
/-! SUPPORT. What a step can do, said once: which shared operation each instruction's meaning is, and the inversion of
`coreStep` and `step`. -/

namespace Sys2Proof.Laws

open Sys2Proof Sys2Proof.Machine

/-- A sensor command's meaning is the emission of its own byte with one of the three transaction bodies. -/
theorem exec_sensorCommand (c : Byte) (i : Instr) (h : decodeBus c = .ok i) (s : State) :
    (responseLength c = 0 ∧ exec i s = emitCommand c (writeCommand c) s) ∨
    (c = adcReadCommand ∧ exec i s = emitCommand c adcRead s) ∨
    (∃ k : Fin 8, c = promCommand k ∧ exec i s = emitCommand c (promRead k) s) := by
  have hc := encode_of_decodeBus c i h
  subst hc
  cases i
  case init77 | init76 | reset | readSampleOsr256 | readSampleOsr512 | readSampleOsr1024 | readSampleOsr2048
      | readSampleOsr4096 => exact absurd h (by decide)
  case cmdAdcRead => exact .inr (.inl ⟨rfl, rfl⟩)
  case cmdPromRead0 => exact .inr (.inr ⟨0, rfl, rfl⟩)
  case cmdPromRead1 => exact .inr (.inr ⟨1, rfl, rfl⟩)
  case cmdPromRead2 => exact .inr (.inr ⟨2, rfl, rfl⟩)
  case cmdPromRead3 => exact .inr (.inr ⟨3, rfl, rfl⟩)
  case cmdPromRead4 => exact .inr (.inr ⟨4, rfl, rfl⟩)
  case cmdPromRead5 => exact .inr (.inr ⟨5, rfl, rfl⟩)
  case cmdPromRead6 => exact .inr (.inr ⟨6, rfl, rfl⟩)
  case cmdPromRead7 => exact .inr (.inr ⟨7, rfl, rfl⟩)
  all_goals exact .inl ⟨by decide, rfl⟩

/-- A host word's meaning is one of the two acceptances. -/
theorem exec_hostCommand (b : Byte) (i : Instr) (h : decodeHost b = .ok i) (s : State) :
    (∃ a0, b = joinHost ⟨1, 0, BitVec.ofBool a0⟩ ∧ exec i s = acceptInit a0 s) ∨
    (b = joinHost ⟨2, 0, 0⟩ ∧ exec i s = acceptWhenReady startReset s) ∨
    (∃ n, osrIndexWf n = true ∧ b = joinHost ⟨3, n, 0⟩ ∧ exec i s = acceptWhenReady (startReadSample n) s) := by
  have key : ∀ c : Byte, (match decodeHost c with | .ok j => encode j == c | .error _ => true) = true := by decide
  have hb : encode i = b := by
    have := key b
    rw [h] at this
    simpa using this
  subst hb
  cases i
  case init77 => exact .inl ⟨false, by decide, rfl⟩
  case init76 => exact .inl ⟨true, by decide, rfl⟩
  case reset => exact .inr (.inl ⟨by decide, rfl⟩)
  case readSampleOsr256 => exact .inr (.inr ⟨0, by decide, by decide, rfl⟩)
  case readSampleOsr512 => exact .inr (.inr ⟨1, by decide, by decide, rfl⟩)
  case readSampleOsr1024 => exact .inr (.inr ⟨2, by decide, by decide, rfl⟩)
  case readSampleOsr2048 => exact .inr (.inr ⟨3, by decide, by decide, rfl⟩)
  case readSampleOsr4096 => exact .inr (.inr ⟨4, by decide, by decide, rfl⟩)
  all_goals exact absurd h (by decide)

/-- Every way the block can go from one state to the next, the reset input aside. -/
inductive CoreMove (s : State) : State → Prop where
  /-- Idle, and the host has no move. -/
  | rest (idle : s.regs.busy = false) (moves : s.hostMoves = []) : CoreMove s s
  /-- An INIT is accepted. -/
  | init (a0 : Bool) (later : List HostMove) (idle : s.regs.busy = false)
      (moves : s.hostMoves = .issue (joinHost ⟨1, 0, BitVec.ofBool a0⟩) :: later) :
      CoreMove s (onRegs (startInit a0) { s with hostMoves := later })
  /-- A RESET is accepted. -/
  | reset (later : List HostMove) (idle : s.regs.busy = false) (ready : s.regs.mode = .ready)
      (moves : s.hostMoves = .issue (joinHost ⟨2, 0, 0⟩) :: later) :
      CoreMove s (onRegs startReset { s with hostMoves := later })
  /-- A READ_SAMPLE is accepted. -/
  | readSample (n : U3) (later : List HostMove) (idle : s.regs.busy = false) (ready : s.regs.mode = .ready)
      (index : osrIndexWf n = true) (moves : s.hostMoves = .issue (joinHost ⟨3, n, 0⟩) :: later) :
      CoreMove s (onRegs (startReadSample n) { s with hostMoves := later })
  /-- A RESET or READ_SAMPLE ends with NotReady. -/
  | notReady (b : Byte) (later : List HostMove) (idle : s.regs.busy = false) (mode : s.regs.mode ≠ .ready)
      (word : b = joinHost ⟨2, 0, 0⟩ ∨ ∃ n, osrIndexWf n = true ∧ b = joinHost ⟨3, n, 0⟩)
      (moves : s.hostMoves = .issue b :: later) :
      CoreMove s (raise .notReady { s with hostMoves := later })
  /-- A reserved word ends with IllegalCommand. -/
  | illegal (b : Byte) (later : List HostMove) (idle : s.regs.busy = false) (word : ∃ r, decodeHost b = .error r)
      (moves : s.hostMoves = .issue b :: later) :
      CoreMove s (raise .illegalCommand { s with hostMoves := later })
  /-- The host reads a register, by name or at an offset. -/
  | hostRead (m : HostMove) (h : HostReg) (v : HostValue) (later : List HostMove) (idle : s.regs.busy = false)
      (names : m = .read h ∨ ∃ off, m = .readAt off ∧ registerAt s.params off = some h)
      (value : readReg h s.regs = .ok v) (moves : s.hostMoves = m :: later) :
      CoreMove s (tellHost (.value h v) { s with hostMoves := later })
  /-- A `W` event. -/
  | write (c a : Byte) (busy : s.regs.busy = true) (action : currentAction s.params s.regs = .ok (.bus c))
      (command : ∃ i, decodeBus c = .ok i) (length : responseLength c = 0) (address : s.regs.devAddr = some a) :
      CoreMove s (writeCommand c a s)
  /-- An ADC read. -/
  | adcRead (a : Byte) (busy : s.regs.busy = true) (action : currentAction s.params s.regs = .ok (.bus adcReadCommand))
      (address : s.regs.devAddr = some a) : CoreMove s (adcRead a s)
  /-- A PROM read. -/
  | promRead (k : Fin 8) (a : Byte) (busy : s.regs.busy = true)
      (action : currentAction s.params s.regs = .ok (.bus (promCommand k))) (address : s.regs.devAddr = some a) :
      CoreMove s (promRead k a s)
  /-- A delay. -/
  | delay (ms : Byte) (busy : s.regs.busy = true) (action : currentAction s.params s.regs = .ok (.delay ms)) :
      CoreMove s (delayStep ms s)
  /-- The check accepts the calibration. -/
  | accept (w : PromWords) (busy : s.regs.busy = true) (action : currentAction s.params s.regs = .ok .crcCheck)
      (words : s.regs.w = w.map some) (nibbles : crc4 w = storedNibble w) :
      CoreMove s (doneOk (onRegs (fun r => acceptCalibration w (recordCheck w r)) s))
  /-- The check raises the checksum error. -/
  | reject (w : PromWords) (busy : s.regs.busy = true) (action : currentAction s.params s.regs = .ok .crcCheck)
      (words : s.regs.w = w.map some) (nibbles : crc4 w ≠ storedNibble w) :
      CoreMove s (raise .checksum (onRegs (fun r => markFailed (recordCheck w r)) s))
  /-- The compensation step. -/
  | compensate (d1 d2 : S32) (c : Calibration) (busy : s.regs.busy = true)
      (action : currentAction s.params s.regs = .ok .compensate) (raw1 : s.regs.d1 = some d1)
      (raw2 : s.regs.d2 = some d2) (cal : s.regs.cal = some c) :
      CoreMove s (doneOk (onRegs (putSample s.params (compensate d1.toInt d2.toInt c)) s))

/-- If the busy block makes a step, it is one of the sequencer's. -/
theorem coreMove_of_busy (s t : State) (busy : s.regs.busy = true) (h : coreStep s = .next t) : CoreMove s t := by
  simp only [coreStep, fetch, busy, if_true, fetchBusy] at h
  cases ha : currentAction s.params s.regs with
  | error f => simp [ha] at h
  | ok act =>
    rw [ha] at h
    cases act with
    | bus c =>
      cases hd : decodeBus c with
      | error r => simp [hd] at h
      | ok i =>
        simp only [hd] at h
        rcases exec_sensorCommand c i hd s with ⟨hl, he⟩ | ⟨rfl, he⟩ | ⟨k, rfl, he⟩ <;>
          rw [he, emitCommand_eq_next] at h <;> obtain ⟨-, a, hda, rfl⟩ := h
        · exact .write c a busy ha ⟨i, hd⟩ hl hda
        · exact .adcRead a busy ha hda
        · exact .promRead k a busy ha hda
    | delay ms =>
      simp only [Host.Outcome.next.injEq] at h
      exact h ▸ .delay ms busy ha
    | crcCheck =>
      obtain ⟨w, hw, ⟨hc, rfl⟩ | ⟨hc, rfl⟩⟩ := (crcCheck_eq_next s t).1 h
      · exact .accept w busy ha ((promWords_eq_some _ _).1 hw) hc
      · exact .reject w busy ha ((promWords_eq_some _ _).1 hw) hc
    | compensate =>
      obtain ⟨d1, d2, c, h1, h2, h3, rfl⟩ := (compensateStep_eq_next s t).1 h
      exact .compensate d1 d2 c busy ha h1 h2 h3

/-- If the idle block makes a step, it is one of the host's moves, or none. -/
theorem coreMove_of_idle (s t : State) (idle : s.regs.busy = false) (h : coreStep s = .next t) : CoreMove s t := by
  simp only [coreStep, fetch, idle, fetchIdle, Bool.false_eq_true, if_false] at h
  cases hm : s.hostMoves with
  | nil =>
    simp [hm] at h
    exact h ▸ .rest idle hm
  | cons m later =>
    rw [hm] at h
    cases m with
    | issue b =>
      cases hd : decodeHost b with
      | error r =>
        simp [hd, refuseIllegal] at h
        exact h ▸ .illegal b later idle ⟨r, hd⟩ hm
      | ok i =>
        simp only [hd] at h
        rcases exec_hostCommand b i hd { s with hostMoves := later } with
          ⟨a0, rfl, he⟩ | ⟨rfl, he⟩ | ⟨n, hn, rfl, he⟩
        · obtain ⟨-, rfl⟩ := (acceptInit_eq_next _ _ _).1 (he.symm.trans h)
          exact .init a0 later idle hm
        · obtain ⟨-, ⟨hr, rfl⟩ | ⟨hr, rfl⟩⟩ := (acceptWhenReady_eq_next _ _ _).1 (he.symm.trans h)
          · exact .reset later idle hr hm
          · exact .notReady _ later idle hr (.inl rfl) hm
        · obtain ⟨-, ⟨hr, rfl⟩ | ⟨hr, rfl⟩⟩ := (acceptWhenReady_eq_next _ _ _).1 (he.symm.trans h)
          · exact .readSample n later idle hr hn hm
          · exact .notReady _ later idle hr (.inr ⟨n, hn, rfl⟩) hm
    | read r =>
      obtain ⟨v, hv, rfl⟩ := (hostRead_eq_next _ _ _).1 h
      exact .hostRead _ r v later idle (.inl rfl) hv hm
    | readAt off =>
      simp only [hostReadAt] at h
      cases hr : registerAt s.params off with
      | none => simp [hr] at h
      | some r =>
        simp only [hr] at h
        obtain ⟨v, hv, rfl⟩ := (hostRead_eq_next _ _ _).1 h
        exact .hostRead _ r v later idle (.inr ⟨off, rfl, hr⟩) hv hm

/-- Every step of the block is one of the moves. -/
theorem coreStep_next (s t : State) (h : coreStep s = .next t) : CoreMove s t := by
  cases hb : s.regs.busy with
  | true => exact coreMove_of_busy s t hb h
  | false => exact coreMove_of_idle s t hb h

/-- Sampling the reset input changes nothing else. -/
theorem sampleReset_eq (s : State) :
    sampleReset s = (s.resetLine.head?.getD false, { s with resetLine := s.resetLine.tail }) := by
  obtain ⟨_, _, _ | ⟨b, rest⟩, _, _, _, _, _⟩ := s <;> rfl

/-- Every step of the machine is the block reset or a move of the block, by the reset input's sample. -/
theorem step_next (s t : State) (h : step s = .next t) :
    (s.resetLine.head? = some true ∧ t = blockReset { s with resetLine := s.resetLine.tail }) ∨
    (s.resetLine.head? ≠ some true ∧ CoreMove { s with resetLine := s.resetLine.tail } t) := by
  rw [step, sampleReset_eq] at h
  cases hl : s.resetLine.head? with
  | none =>
    simp only [hl, Option.getD_none] at h
    exact .inr ⟨by simp, coreStep_next _ _ h⟩
  | some b =>
    cases b with
    | true =>
      simp only [hl, Option.getD_some, Host.Outcome.next.injEq] at h
      exact .inl ⟨rfl, h.symm⟩
    | false =>
      simp only [hl, Option.getD_some] at h
      exact .inr ⟨by simp, coreStep_next _ _ h⟩

end Sys2Proof.Laws
end

