-- ==== Sys2Proof/Machine/Text.lean ====
section
/-! DEFINITION. The text syntax the spec fixes for host programs and bus traces (30_encoding.md R57) and its one
pseudo-instruction (R58). No step reads or writes text. -/

namespace Sys2Proof.Machine

open Sys2Proof

/-- The texts of the host operations; `INIT` with no operand stands for `INIT 0x77` (R57, R58). -/
def hostSyntax : List (String × Instr) :=
  [("INIT 0x77", .init77), ("INIT 0x76", .init76), ("INIT", .init77), ("RESET", .reset),
   ("READ_SAMPLE OSR256", .readSampleOsr256), ("READ_SAMPLE OSR512", .readSampleOsr512),
   ("READ_SAMPLE OSR1024", .readSampleOsr1024), ("READ_SAMPLE OSR2048", .readSampleOsr2048),
   ("READ_SAMPLE OSR4096", .readSampleOsr4096)]

/-- A line without its comment and the blanks around it: a comment starts with `;`. -/
def stripLine (line : String) : String :=
  String.ofList ((((line.toList.takeWhile (· ≠ ';')).dropWhile (· = ' ')).reverse.dropWhile (· = ' ')).reverse)

/-- The operation a line of a host program asks for. -/
def parseHostLine (line : String) : Option Instr :=
  (hostSyntax.find? fun entry => entry.1 == stripLine line).map (·.2)

/-- A hexadecimal digit, as the spec writes it. -/
def hexDigit (n : Nat) : Char := if n < 10 then Char.ofNat (48 + n) else Char.ofNat (55 + n)

/-- A byte as the spec writes it, `0x..` (R6). -/
def hexByte (b : Byte) : String := "0x" ++ String.ofList [hexDigit (b.toNat / 16), hexDigit (b.toNat % 16)]

/-- The result of a transaction in a bus trace; a write's `Ok` carries no bytes. -/
def resultText : BusResult → String
  | .ok [] => "Ok"
  | .ok bytes => "Ok([" ++ String.intercalate ", " (bytes.map hexByte) ++ "])"
  | .err e => "Err(" ++ toString e.token ++ ")"

/-- An event as a line of a bus trace (R57). -/
def eventText : Event → String
  | .write a c r => "W(" ++ hexByte a ++ ", " ++ hexByte c ++ ") -> " ++ resultText r
  | .writeRead a c n r => "WR(" ++ hexByte a ++ ", " ++ hexByte c ++ ", " ++ toString n ++ ") -> " ++ resultText r
  | .delay ms => "DLY(" ++ toString ms.toNat ++ ")"

end Sys2Proof.Machine
end

