-- ==== Sys2Proof/Tests/Slice0.lean ====
section
/-! SUPPORT. Tests: ill-formed terms the checks refuse, every instruction's byte written out from the spec's encoding
tables, one-step runs against the vectors of 95_test_vectors.md (named in the comments), and, for each statement with
hypotheses, a concrete input that meets them. -/

namespace Sys2Proof.Tests

open Sys2Proof Sys2Proof.Machine

/-! ## Ill-formed terms (R13, R14, R18, R44 to R46) -/

theorem test_osrIndexWf_refuses_5 : osrIndexWf 5 = false ∧ osrIndexWf 4 = true := by decide
theorem test_devAddrWf_refuses_0x75 : devAddrWf 0x75 = false ∧ devAddrWf 0x77 = true ∧ devAddrWf 0x76 = true := by decide
theorem test_rawWf_refuses_bit_24 : rawWf 0x01000000 = false ∧ rawWf 0x00FFFFFF = true := by decide
theorem test_hostWf_refuses_op_0 : (Fields.host ⟨0, 0, 0⟩).wf = false := by decide
theorem test_hostWf_refuses_op_4 : (Fields.host ⟨4, 0, 0⟩).wf = false := by decide
theorem test_hostWf_refuses_init_with_arg : (Fields.host ⟨1, 1, 0⟩).wf = false := by decide
theorem test_hostWf_refuses_reset_with_arg : (Fields.host ⟨2, 4, 0⟩).wf = false := by decide
theorem test_hostWf_refuses_reset_with_a0 : (Fields.host ⟨2, 0, 1⟩).wf = false := by decide
theorem test_hostWf_refuses_read_index_5 : (Fields.host ⟨3, 5, 0⟩).wf = false := by decide
theorem test_hostWf_refuses_read_with_a0 : (Fields.host ⟨3, 0, 1⟩).wf = false := by decide
theorem test_busWf_refuses_fixed_0x1F : (Fields.bus (.fixed 0x1F)).wf = false := by decide
theorem test_busWf_refuses_conv_index_5 : (Fields.bus (.conv false 5)).wf = false ∧ (Fields.bus (.conv true 7)).wf = false := by
  decide

/-! ## Encodings

The eight host words by `OP`, `ARG`, `A0` (R44, R53; H1 to H6), the reserved words H7 to H14, and the twenty sensor
commands by the shapes of R46 and the table of R54. -/

theorem test_decode_init :
    decodeHost (0b0001#4 ++ 0b000#3 ++ 0b0#1) = .ok .init77 ∧ decodeHost (0b0001#4 ++ 0b000#3 ++ 0b1#1) = .ok .init76 := by
  decide

theorem test_decode_reset : decodeHost (0b0010#4 ++ 0b000#3 ++ 0b0#1) = .ok .reset := by decide

theorem test_decode_readSample :
    decodeHost (0b0011#4 ++ 0b000#3 ++ 0b0#1) = .ok .readSampleOsr256 ∧
    decodeHost (0b0011#4 ++ 0b001#3 ++ 0b0#1) = .ok .readSampleOsr512 ∧
    decodeHost (0b0011#4 ++ 0b010#3 ++ 0b0#1) = .ok .readSampleOsr1024 ∧
    decodeHost (0b0011#4 ++ 0b011#3 ++ 0b0#1) = .ok .readSampleOsr2048 ∧
    decodeHost (0b0011#4 ++ 0b100#3 ++ 0b0#1) = .ok .readSampleOsr4096 := by decide

theorem test_decode_reserved_words :
    decodeHost 0x3A = .error .reservedOsrIndex ∧ decodeHost 0x3E = .error .reservedOsrIndex ∧
    decodeHost 0x31 = .error .a0MustBeZero ∧ decodeHost 0x12 = .error .argMustBeZero ∧
    decodeHost 0x21 = .error .a0MustBeZero ∧ decodeHost 0x00 = .error .reservedOp ∧
    decodeHost 0xFF = .error .reservedOp ∧ decodeHost 0x40 = .error .reservedOp := by decide

theorem test_decode_fixed_commands :
    decodeBus 0b00011110#8 = .ok .cmdReset ∧ decodeBus 0b00000000#8 = .ok .cmdAdcRead := by decide

theorem test_decode_pressure_conversions :
    decodeBus (0b0100#4 ++ 0b000#3 ++ 0b0#1) = .ok .cmdConvD1Osr256 ∧
    decodeBus (0b0100#4 ++ 0b001#3 ++ 0b0#1) = .ok .cmdConvD1Osr512 ∧
    decodeBus (0b0100#4 ++ 0b010#3 ++ 0b0#1) = .ok .cmdConvD1Osr1024 ∧
    decodeBus (0b0100#4 ++ 0b011#3 ++ 0b0#1) = .ok .cmdConvD1Osr2048 ∧
    decodeBus (0b0100#4 ++ 0b100#3 ++ 0b0#1) = .ok .cmdConvD1Osr4096 := by decide

theorem test_decode_temperature_conversions :
    decodeBus (0b0101#4 ++ 0b000#3 ++ 0b0#1) = .ok .cmdConvD2Osr256 ∧
    decodeBus (0b0101#4 ++ 0b001#3 ++ 0b0#1) = .ok .cmdConvD2Osr512 ∧
    decodeBus (0b0101#4 ++ 0b010#3 ++ 0b0#1) = .ok .cmdConvD2Osr1024 ∧
    decodeBus (0b0101#4 ++ 0b011#3 ++ 0b0#1) = .ok .cmdConvD2Osr2048 ∧
    decodeBus (0b0101#4 ++ 0b100#3 ++ 0b0#1) = .ok .cmdConvD2Osr4096 := by decide

theorem test_decode_prom_reads :
    decodeBus (0b1010#4 ++ 0b000#3 ++ 0b0#1) = .ok .cmdPromRead0 ∧
    decodeBus (0b1010#4 ++ 0b001#3 ++ 0b0#1) = .ok .cmdPromRead1 ∧
    decodeBus (0b1010#4 ++ 0b010#3 ++ 0b0#1) = .ok .cmdPromRead2 ∧
    decodeBus (0b1010#4 ++ 0b011#3 ++ 0b0#1) = .ok .cmdPromRead3 ∧
    decodeBus (0b1010#4 ++ 0b100#3 ++ 0b0#1) = .ok .cmdPromRead4 ∧
    decodeBus (0b1010#4 ++ 0b101#3 ++ 0b0#1) = .ok .cmdPromRead5 ∧
    decodeBus (0b1010#4 ++ 0b110#3 ++ 0b0#1) = .ok .cmdPromRead6 ∧
    decodeBus (0b1010#4 ++ 0b111#3 ++ 0b0#1) = .ok .cmdPromRead7 := by decide

/-- Bytes near the map that are no sensor command (R56). -/
theorem test_decode_not_a_sensor_command :
    decodeBus 0x4A = .error .notASensorCommand ∧ decodeBus 0x41 = .error .notASensorCommand ∧
    decodeBus 0x10 = .error .notASensorCommand ∧ decodeBus 0xA1 = .error .notASensorCommand ∧
    decodeBus 0xB0 = .error .notASensorCommand := by decide

/-! ## Function vectors -/

/-- The accepted word set CV1. -/
def cv1 : PromWords := #v[0x1234, 0x9CBF, 0x903C, 0x5B15, 0x5AF2, 0x82B8, 0x6E98, 0x5A09]

/-- CV1 with bit 0 of word 3 flipped: CV5, rejected. -/
def cv5 : PromWords := cv1.set 3 0x5B14

/-- The loader buffer holding eight words. -/
def held (w : PromWords) : Vector (Option U16) 8 :=
  #v[some w[0], some w[1], some w[2], some w[3], some w[4], some w[5], some w[6], some w[7]]

/-- The coefficients of CV1. -/
def cal1 : Calibration := ⟨40127, 36924, 23317, 23282, 33464, 28312⟩

theorem test_crc_cv1 : crcAcc cv1 = 0x9000 ∧ crc4 cv1 = 9 ∧ storedNibble cv1 = 9 ∧ calibrationOf cv1 = cal1 := by decide +kernel

/-- The first two rows of CV1's trace. -/
theorem test_crc_trace : crcByte 0 0x12 = 0x1200 ∧ crcByte 0x1200 0x34 = 0x0400 := by decide +kernel

theorem test_crc_cv2_cv3 :
    crc4 (Vector.replicate 8 0) = 0 ∧ crc4 (Vector.replicate 8 0xFFFF) = 0 ∧
    storedNibble (Vector.replicate 8 0xFFFF) = 15 := by decide +kernel

theorem test_crc_cv4 :
    crc4 #v[0, 0, 0, 0, 0, 0, 0, 0x5A0F] = 15 ∧ crc4 #v[0x1234, 0, 0, 0, 0, 0, 0, 0x0006] = 6 := by decide +kernel

theorem test_crc_cv5_to_cv7 :
    crc4 cv5 = 8 ∧ storedNibble cv5 = 9 ∧ crc4 (cv1.set 7 0x5A19) = 9 ∧ storedNibble (cv1.set 7 0x5A19) = 9 ∧
    crc4 (cv1.set 7 0x5A08) = 9 ∧ storedNibble (cv1.set 7 0x5A08) = 8 := by decide +kernel

theorem test_crc_cv8_to_cv10 :
    crc4 (cv1.set 0 0x9234) = 1 ∧ crc4 (cv1.set 7 0x5B09) = 10 ∧ crc4 (cv1.set 0 0x9235) = 9 := by decide +kernel

/-- V1. -/
theorem test_compensate_v1 :
    compensate 9085466 8569150 cal1 = ⟨2366, 2007, 2007, 2420281617, 1315097036, 0, 0, 0, 100009⟩ := by decide

/-- V2 and V3: the boundary of the first branch. -/
theorem test_compensate_v2_v3 :
    compensate 9085466 8566784 cal1 = ⟨0, 2000, 2000, 2419851264, 1314881536, 0, 0, 0, 99993⟩ ∧
    compensate 9085466 8566783 cal1 = ⟨-1, 1999, 1999, 2419851080, 1314881443, 0, 2, 1, 99993⟩ := by decide

/-- V4 and V5: the boundary of the second branch. -/
theorem test_compensate_v4_v5 :
    compensate 9085466 7530059 cal1 =
      ⟨-1036725, -1500, -2000, 2200655705, 1205142017, 500, 30625000, 15312500, 92174⟩ ∧
    compensate 9085466 7529763 cal1 =
      ⟨-1037021, -1501, -2001, 2200584357, 1205106300, 500, 30642509, 15321256, 92171⟩ := by decide

/-- V9 and V10. -/
theorem test_compensate_v9_v10 :
    compensate 9085466 16777215 cal1 = ⟨8210431, 29710, 29710, 3913251690, 2062704268, 0, 0, 0, 153289⟩ ∧
    compensate 9085466 0 cal1 =
      ⟨-8566784, -26914, -61088, -5749514694, -4062715475, 34174, 6611148262, 4597316923, -361675⟩ := by decide

/-- V7 and V8: extreme magnitudes, and floor against truncation. -/
theorem test_compensate_v7_v8 :
    compensate 16777215 0 ⟨0, 0, 65535, 65535, 65535, 65535⟩ =
      ⟨-16776960, -129069, -260137, -165454327679, -115274863361, 131068, 156864655229, 110980027136, -23094011⟩ ∧
    compensate 0 255 ⟨0, 0, 0, 1, 1, 1⟩ = ⟨-1, 1999, 1999, -3, -1, 0, 2, 1, 0⟩ := by decide

/-- The float outputs of V1, V5 and V10, and 16777217 beside 16777216. -/
theorem test_floatConv :
    floatConv Params.default (.ofInt 64 100009) = 0x447A05C3 ∧ floatConv Params.default (.ofInt 64 2007) = 0x41A08F5C ∧
    floatConv Params.default (.ofInt 64 92171) = 0x44666D71 ∧ floatConv Params.default (.ofInt 64 (-2001)) = 0xC1A0147B ∧
    floatConv Params.default (.ofInt 64 (-361675)) = 0xC5620C00 ∧
    floatConv Params.default (.ofInt 64 16777217) = 0x4823D70A ∧
    floatConv Params.default (.ofInt 64 16777216) = 0x4823D70A := by decide +kernel

/-! ## One step on a small state -/

/-- The loader buffer after an accepted INIT: words 0 and 7 hold no value (R70). -/
def kept (w : PromWords) : Vector (Option U16) 8 :=
  #v[none, some w[1], some w[2], some w[3], some w[4], some w[5], some w[6], none]

/-- A `READY` block with the calibration CV1 at address 0x77, whose transport then answers as the list says. -/
def ready (answers : List BusAnswer) : State :=
  { State.reset with
    regs := { Regs.reset with mode := .ready, devAddr := some 0x77, cal := some cal1, w := kept cv1,
                              crcComputed := some 9, crcStored := some 9, status := .ok }
    answers := answers }

/-- The host's next move issues the word. -/
def issuing (b : Byte) (s : State) : State := { s with hostMoves := [.issue b] }

/-- The ready block in the middle of an operation. -/
def running (op : Op) (upc : U4) (answers : List BusAnswer) : State :=
  onRegs (fun r => { r with busy := true, op := op, upc := upc }) (ready answers)

/-- READ_SAMPLE at a step and an index, with the raw values of V1. -/
def reading (upc : U4) (index : U3) (answers : List BusAnswer) : State :=
  onRegs (fun r => { r with osri := some index, d1 := some 9085466, d2 := some 8569150 }) (running .readSample upc answers)

/-- INIT at a step, with the words read. -/
def initing (w : PromWords) (upc : U4) (answers : List BusAnswer) : State :=
  onRegs (fun r => { r with mode := .uninit, cal := none, w := held w }) (running .init upc answers)

/-- The registers after a step that goes on. -/
def regsAfter (o : Host.Outcome State Fault Refusal) : Option Regs :=
  match o with
  | .next t => some t.regs
  | _ => none

/-- The events and the host's log after a step that goes on. -/
def seenAfter (o : Host.Outcome State Fault Refusal) : Option (List Event × List HostEvent) :=
  match o with
  | .next t => some (t.trace, t.hostLog)
  | _ => none

/-- An `Ok` whose three bytes are those of `D1` in V1. -/
def okV1 : BusAnswer := .ok 0x8A 0xA2 0x1A

/-- The transport error every `TErr` has. -/
def e1 : TErr := ⟨0, .inl rfl⟩

theorem test_init77 : (regsAfter (step (issuing 0x10 (ready [])))).map (fun r => (r.mode, r.op, r.devAddr, r.cal)) =
    some (.uninit, .init, some 0x77, none) := by decide

theorem test_init76 : (regsAfter (step (issuing 0x11 State.reset))).map (fun r => (r.busy, r.op, r.devAddr)) =
    some (true, .init, some 0x76) := by decide

theorem test_reset_ready : (regsAfter (step (issuing 0x20 (ready [])))).map (fun r => (r.busy, r.op, r.mode)) =
    some (true, .reset, .ready) := by decide

/-- S1. -/
theorem test_reset_uninit : (regsAfter (step (issuing 0x20 State.reset))).map (fun r => (r.busy, r.status, r.mode)) =
    some (false, .errNotReady, .uninit) := by decide

theorem test_readSample_256 : (regsAfter (step (issuing 0x30 (ready [])))).map (fun r => (r.op, r.upc, r.osri)) =
    some (.readSample, 0, some 0) := by decide
theorem test_readSample_512 : (regsAfter (step (issuing 0x32 (ready [])))).map (fun r => (r.op, r.upc, r.osri)) =
    some (.readSample, 0, some 1) := by decide
theorem test_readSample_1024 : (regsAfter (step (issuing 0x34 (ready [])))).map (fun r => (r.op, r.upc, r.osri)) =
    some (.readSample, 0, some 2) := by decide
theorem test_readSample_2048 : (regsAfter (step (issuing 0x36 (ready [])))).map (fun r => (r.op, r.upc, r.osri)) =
    some (.readSample, 0, some 3) := by decide
theorem test_readSample_4096 : (regsAfter (step (issuing 0x38 (ready [])))).map (fun r => (r.op, r.upc, r.osri)) =
    some (.readSample, 0, some 4) := by decide

/-- S3: 0x3C is reserved. -/
theorem test_reserved_word : seenAfter (step (issuing 0x3C (ready []))) = some ([], [.response .errIllegalCmd]) := by decide

/-- S6, first event. -/
theorem test_cmdReset_ok : seenAfter (step (running .reset 0 [okV1])) = some ([.write 0x77 0x1E (.ok [])], []) := by decide

/-- S5. -/
theorem test_cmdReset_err :
    (regsAfter (step (running .reset 0 [.err e1]))).map (fun r => (r.status, r.errInfo, r.errCmd, r.mode, r.busy)) =
      some (.errTransport, some e1, some 0x1E, .ready, false) := by decide

/-- S6, second event and end. -/
theorem test_reset_delay :
    seenAfter (step (running .reset 1 [])) = some ([.delay 50], [.response .ok]) := by decide

theorem test_convD1_256 : seenAfter (step (reading 0 0 [okV1])) = some ([.write 0x77 0x40 (.ok [])], []) := by decide
theorem test_convD1_512 : seenAfter (step (reading 0 1 [okV1])) = some ([.write 0x77 0x42 (.ok [])], []) := by decide
theorem test_convD1_1024 : seenAfter (step (reading 0 2 [okV1])) = some ([.write 0x77 0x44 (.ok [])], []) := by decide

/-- S7. -/
theorem test_convD1_2048_err :
    (regsAfter (step (reading 0 3 [.err e1]))).map (fun r => (r.status, r.errCmd, r.upc, r.sampleValid)) =
      some (.errTransport, some 0x46, 0, false) := by decide

theorem test_convD1_4096 : seenAfter (step (reading 0 4 [okV1])) = some ([.write 0x77 0x48 (.ok [])], []) := by decide
theorem test_convD2_256 : seenAfter (step (reading 3 0 [okV1])) = some ([.write 0x77 0x50 (.ok [])], []) := by decide
theorem test_convD2_512 : seenAfter (step (reading 3 1 [okV1])) = some ([.write 0x77 0x52 (.ok [])], []) := by decide
theorem test_convD2_1024 : seenAfter (step (reading 3 2 [okV1])) = some ([.write 0x77 0x54 (.ok [])], []) := by decide

/-- S9, last event. -/
theorem test_convD2_2048_err :
    (regsAfter (step (reading 3 3 [.err e1]))).map (fun r => (r.status, r.errCmd, r.d1)) =
      some (.errTransport, some 0x56, some 9085466) := by decide

theorem test_convD2_4096 : seenAfter (step (reading 3 4 [okV1])) = some ([.write 0x77 0x58 (.ok [])], []) := by decide

/-- 0x8AA21A is 9085466 (V1). -/
theorem test_adcRead_d1 : (regsAfter (step (onRegs (fun r => { r with d1 := none, d2 := none }) (reading 2 4 [okV1])))).map
    (fun r => (r.d1, r.d2, r.upc)) = some (some 9085466, none, 3) := by decide

/-- 0x82C13E is 8569150 (V1). -/
theorem test_adcRead_d2 : (regsAfter (step (reading 5 4 [.ok 0x82 0xC1 0x3E]))).map (fun r => (r.d2, r.upc)) =
    some (some 8569150, 6) := by decide

/-- The waits of levels 0 and 4 (R59). -/
theorem test_read_delays :
    seenAfter (step (reading 1 0 [])) = some ([.delay 1], []) ∧ seenAfter (step (reading 4 4 [])) = some ([.delay 10], []) := by
  decide

theorem test_promRead0 : (regsAfter (step (initing (Vector.replicate 8 0) 0 [.ok 0x12 0x34 0xFF]))).map
    (fun r => (r.w[0], r.w[1], r.upc)) = some (some 0x1234, some 0, 1) := by decide
theorem test_promRead1 : seenAfter (step (initing cv1 1 [.ok 0x9C 0xBF 0])) =
    some ([.writeRead 0x77 0xA2 2 (.ok [0x9C, 0xBF])], []) := by decide
theorem test_promRead2 : seenAfter (step (initing cv1 2 [.ok 0x90 0x3C 0])) =
    some ([.writeRead 0x77 0xA4 2 (.ok [0x90, 0x3C])], []) := by decide +kernel

/-- S4, last event. -/
theorem test_promRead3_err :
    (regsAfter (step (initing cv1 3 [.err e1]))).map (fun r => (r.mode, r.status, r.errInfo, r.errCmd)) =
      some (.failed, .errTransport, some e1, some 0xA6) := by decide

theorem test_promRead4 : seenAfter (step (initing cv1 4 [.ok 0x5A 0xF2 0])) =
    some ([.writeRead 0x77 0xA8 2 (.ok [0x5A, 0xF2])], []) := by decide
theorem test_promRead5 : seenAfter (step (initing cv1 5 [.ok 0x82 0xB8 0])) =
    some ([.writeRead 0x77 0xAA 2 (.ok [0x82, 0xB8])], []) := by decide
theorem test_promRead6 : seenAfter (step (initing cv1 6 [.ok 0x6E 0x98 0])) =
    some ([.writeRead 0x77 0xAC 2 (.ok [0x6E, 0x98])], []) := by decide
theorem test_promRead7 : (regsAfter (step (initing (Vector.replicate 8 0) 7 [.ok 0x5A 0x09 0]))).map
    (fun r => (r.w[6], r.w[7], r.upc)) = some (some 0, some 0x5A09, 8) := by decide +kernel

/-- The end of INIT in P1. -/
theorem test_crcCheck_accepts :
    (regsAfter (step (initing cv1 8 []))).map (fun r => ((r.mode, r.status, r.cal), r.w[0], r.w[6], r.w[7])) =
      some ((.ready, .ok, some cal1), none, some 0x6E98, none) := by decide +kernel

/-- The end of the first INIT in P2. -/
theorem test_crcCheck_rejects :
    (regsAfter (step (initing cv5 8 []))).map (fun r => (r.mode, r.status, r.crcComputed, r.crcStored, r.cal)) =
      some (.failed, .errChecksum, some 8, some 9, none) := by decide +kernel

/-- The end of READ_SAMPLE in P1. -/
theorem test_compensate_step : (regsAfter (step (reading 6 4 []))).map (fun r => (r.out, r.sampleValid, r.status)) =
    some (some ⟨100009, 2007, 0x447A05C3, 0x41A08F5C⟩, true, .ok) := by decide +kernel

/-- A reset in the middle of an operation: the reset values, no event, no response (R118, R119). -/
theorem test_block_reset :
    regsAfter (step { reading 2 4 [] with resetLine := [true] }) = some Regs.reset ∧
    seenAfter (step { reading 2 4 [] with resetLine := [true] }) = some ([], []) := by decide

/-- Reads of the host (R15, R20, R25, R26). -/
theorem test_host_reads :
    seenAfter (step { ready [] with hostMoves := [.read .c3] }) = some ([], [.value .c3 (.word 23317)]) ∧
    seenAfter (step { ready [] with hostMoves := [.read .mode] }) = some ([], [.value .mode (.bits2 0b01)]) ∧
    regsAfter (step { State.reset with hostMoves := [.read .status] }) = some Regs.reset ∧
    regsAfter (step { ready [] with hostMoves := [.read .pOut] }) = none ∧
    regsAfter (step { State.reset with hostMoves := [.readAt 0] }) = none := by decide

/-- A read at an offset that `HOST_REG_MAP` assigns (R28 (5)). -/
theorem test_host_readAt :
    seenAfter (step { ready [] with params := { Params.default with hostRegMap := [(4, .crcStored)] }
                                    hostMoves := [.readAt 4] }) = some ([], [.value .crcStored (.nibble 9)]) := by decide

/-- Table words placed after reset, one of each format. -/
theorem test_withFetchWord :
    (regsAfter (step (State.reset.withFetchWord 8 0x11))).map (·.devAddr) = some (some 0x76) ∧
    (seenAfter (step ({ State.reset with answers := [okV1] }.withFetchWord 8 0x56))).map (·.1) =
      some [.write 0x77 0x56 (.ok [])] := by decide

/-- The texts of R57 and R58, lines of P1 and P3 among them. -/
theorem test_texts :
    parseHostLine "INIT 0x76              ; 0x11" = some .init76 ∧ parseHostLine "INIT" = some .init77 ∧
    parseHostLine "READ_SAMPLE OSR4096    ; 0x38" = some .readSampleOsr4096 ∧ parseHostLine "READ_SAMPLE" = none ∧
    eventText (.write 0x77 0x48 (.ok [])) = "W(0x77, 0x48) -> Ok" ∧
    eventText (.writeRead 0x77 0x00 3 (.ok [0x8A, 0xA2, 0x1A])) = "WR(0x77, 0x00, 3) -> Ok([0x8A, 0xA2, 0x1A])" ∧
    eventText (.delay 10) = "DLY(10)" := by decide +kernel

/-! ## Inputs that meet the statements' hypotheses -/

/-- The buffer that holds eight words is those words, each a value. -/
theorem held_eq (w : PromWords) : held w = w.map some := by
  apply Vector.ext
  intro i hi
  simp only [held, Vector.getElem_map]
  match i, hi with
  | 0, _ | 1, _ | 2, _ | 3, _ | 4, _ | 5, _ | 6, _ | 7, _ => rfl

/-- The buffer without words 0 and 7 of eight words that hold values. -/
theorem kept_eq (w : PromWords) : kept w = dropOuterWords (w.map some) := (Laws.dropOuterWords_map w).symm

/-- The words of CV1 support the calibration of every ready block here. -/
theorem ready_calibrated (r : Regs) (hw : r.w = kept cv1) (hc : r.cal = some cal1) (h1 : r.crcComputed = some 9)
    (h2 : r.crcStored = some 9) : Calibrated r := by
  obtain ⟨-, a, b, c⟩ := test_crc_cv1
  exact ⟨cv1, by rw [hw, kept_eq], by rw [a, b], by rw [hc, c], by rw [h1, a], by rw [h2, b]⟩

theorem witness_inv_reset : RegsInv Regs.reset := by
  constructor <;> simp [Regs.reset]

theorem witness_inv_ready (l : List BusAnswer) : RegsInv (ready l).regs := by
  constructor
  · exact fun _ => ready_calibrated _ rfl rfl rfl rfl
  all_goals simp [ready, Regs.reset, devAddrWf]

theorem witness_inv_reading (u : U4) (h : u.toNat ≤ 6) (n : U3) (hn : osrIndexWf n = true) (l : List BusAnswer) :
    RegsInv (reading u n l).regs := by
  constructor
  case ready => exact fun _ => ready_calibrated _ rfl rfl rfl rfl
  case raw => rintro d (hd | hd) <;> cases hd <;> decide
  all_goals simp [reading, running, ready, Regs.reset, devAddrWf, hn, h]

theorem witness_inv_resetting (u : U4) (h : u.toNat ≤ 1) (l : List BusAnswer) : RegsInv (running .reset u l).regs := by
  constructor
  · exact fun _ => ready_calibrated _ rfl rfl rfl rfl
  all_goals simp [running, ready, Regs.reset, devAddrWf, h]

theorem witness_inv_initing (w : PromWords) (u : U4) (h : u.toNat ≤ 8) (l : List BusAnswer) :
    RegsInv (initing w u l).regs := by
  constructor
  all_goals simp [initing, running, ready, Regs.reset, devAddrWf, h, held_eq]

/-- READ_SAMPLE at its first ADC read, with the two events that come before it. -/
def beforeRead : State :=
  { reading 2 0 [okV1] with trace := [.write 0x77 0x40 (.ok []), .delay 1] }

theorem witness_hazard : HazardInv beforeRead := by
  constructor
  · intro before a n r after h
    rcases before with _ | ⟨x, _ | ⟨y, _ | ⟨z, l⟩⟩⟩ <;> simp [beforeRead] at h
  · intro before a e r after he h
    rcases before with _ | ⟨x, _ | ⟨y, _ | ⟨z, l⟩⟩⟩ <;> simp [beforeRead] at h
    have apart : ∀ e ∈ osrRom, (0x40 : Byte) ≠ temperatureCommand e := by decide
    exact absurd h.1.2.1 (apart e he)
  · intro _ _ i e a hi he ha
    cases hi; cases he; cases ha
    exact ⟨fun h => absurd h (by decide), fun _ => ⟨[], rfl⟩, fun h => absurd h (by decide)⟩
  · intro _ _ i e a hi he ha
    exact ⟨fun h => absurd h (by decide), fun h => absurd h (by decide), fun h => absurd h (by decide)⟩

/-- READ_SAMPLE at its temperature command, with the three events that come before it. -/
def afterRead : State :=
  { reading 3 0 [okV1] with
    trace := [.write 0x77 0x40 (.ok []), .delay 1, .writeRead 0x77 0x00 3 (.ok [0x8A, 0xA2, 0x1A])] }

theorem witness_hazard_afterRead : HazardInv afterRead := by
  constructor
  · intro before a n r after h
    rcases before with _ | ⟨x, _ | ⟨y, _ | ⟨z, l⟩⟩⟩ <;> simp [afterRead] at h
    obtain ⟨rfl, rfl, ⟨rfl, -⟩, -⟩ := h
    exact ⟨[], ⟨1, 0⟩, 0x40, by decide, .inl rfl, rfl⟩
  · intro before a e r after he h
    rcases before with _ | ⟨x, _ | ⟨y, _ | ⟨z, l⟩⟩⟩ <;> simp [afterRead] at h
    have apart : ∀ e ∈ osrRom, (0x40 : Byte) ≠ temperatureCommand e := by decide
    exact absurd h.1.2.1 (apart e he)
  · intro _ _ i e a hi he ha
    cases hi; cases he; cases ha
    exact ⟨fun h => absurd h (by decide), fun h => absurd h (by decide), fun _ => ⟨0x8A, 0xA2, 0x1A, rfl, [], rfl⟩⟩
  · intro _ _ i e a hi he ha
    exact ⟨fun h => absurd h (by decide), fun h => absurd h (by decide), fun h => absurd h (by decide)⟩

theorem witness_SensorCommandTable : ∃ i, decodeBus 0xAE = .ok i := ⟨.cmdPromRead7, by decide⟩

theorem witness_DecodeEncodeAgree : decode 0x38 = .ok .readSampleOsr4096 ∧ decode 0x00 = .ok .cmdAdcRead := by decide

/-- Idle with a word, and busy at a bus step. -/
theorem witness_StepRunsDecodedInstruction :
    ((issuing 0x20 (ready [])).resetLine.head? ≠ some true ∧ (issuing 0x20 (ready [])).regs.busy = false ∧
      (issuing 0x20 (ready [])).hostMoves = .issue 0x20 :: [] ∧ decodeHost 0x20 = .ok .reset) ∧
    ((reading 3 4 []).resetLine.head? ≠ some true ∧ (reading 3 4 []).regs.busy = true ∧
      currentAction (reading 3 4 []).params (reading 3 4 []).regs = .ok (.bus 0x58) ∧
      decodeBus 0x58 = .ok .cmdConvD2Osr4096) := by
  refine ⟨⟨by decide, rfl, rfl, by decide⟩, ⟨by decide, rfl, rfl, by decide⟩⟩

theorem witness_ReservedWordRefused :
    (issuing 0x3A (ready [])).resetLine.head? ≠ some true ∧ (issuing 0x3A (ready [])).regs.busy = false ∧
    (issuing 0x3A (ready [])).hostMoves = .issue 0x3A :: [] ∧
    0x3A ∉ ([0x10, 0x11, 0x20, 0x30, 0x32, 0x34, 0x36, 0x38] : List Byte) := by decide

theorem witness_BlockResetStep : { reading 2 4 [] with resetLine := [true, true] }.resetLine = true :: [true] := rfl

theorem witness_IdleKeepsState :
    (ready []).resetLine.head? ≠ some true ∧ (ready []).regs.busy = false ∧ (ready []).hostMoves = [] := by decide

/-- A block whose map assigns offset 4, after another offset, and the host's read at an offset. -/
def readingAt (offset : Nat) : State :=
  { ready [] with params := { Params.default with hostRegMap := [(0, .status), (4, .c1)] }
                  hostMoves := [.readAt offset] }

/-- An assigned offset with an entry before it, the map's first offset, and an offset no entry has. -/
theorem witness_HostReads_offset :
    (∀ offset ∈ [4, 0, 5], (readingAt offset).resetLine.head? ≠ some true ∧ (readingAt offset).regs.busy = false ∧
      (readingAt offset).hostMoves = .readAt offset :: []) ∧
    ((readingAt 4).params.hostRegMap = [(0, .status)] ++ (4, .c1) :: [] ∧
      ∀ entry ∈ [((0 : Nat), HostReg.status)], entry.1 ≠ 4) ∧
    (readingAt 0).params.hostRegMap = [] ++ (0, .status) :: [(4, .c1)] ∧
    ∀ entry ∈ (readingAt 5).params.hostRegMap, entry.1 ≠ 5 := by decide

/-- The common hypotheses; the coefficient holds a value in the ready block and none after reset. -/
theorem witness_HostReads :
    (∀ s ∈ [ready [], State.reset], ({ s with hostMoves := [.read .c1] } : State).resetLine.head? ≠ some true ∧
      ({ s with hostMoves := [.read .c1] } : State).regs.busy = false ∧
      ({ s with hostMoves := [.read .c1] } : State).hostMoves = .read .c1 :: []) ∧
    (ready []).regs.mode = .ready ∧ (ready []).regs.cal = some cal1 ∧ State.reset.regs.mode ≠ .ready := by decide

theorem witness_TransportDraw : (ready [okV1]).answers = okV1 :: [] ∧ (ready []).answers = [] := by decide

theorem witness_PlacedWordRuns : ∃ f, fieldsOf .cmdAdcRead = .bus f := ⟨.fixed 0x00, rfl⟩

theorem witness_InitAccepted : State.reset.regs.busy = false := rfl

theorem witness_ResetAccepted : (ready []).regs.busy = false ∧ (ready []).regs.mode = .ready := by decide

theorem witness_ReadSampleAccepted :
    (Instr.readSampleOsr4096, (4 : U3)) ∈ [(Instr.readSampleOsr256, (0 : U3)), (Instr.readSampleOsr512, 1),
      (Instr.readSampleOsr1024, 2), (Instr.readSampleOsr2048, 3), (Instr.readSampleOsr4096, 4)] ∧
    (ready []).regs.busy = false ∧ (ready []).regs.mode = .ready := by decide

/-- `UNINIT` and `FAILED`. -/
theorem witness_NotReadyRefused :
    (State.reset.regs.busy = false ∧ State.reset.regs.mode ≠ .ready) ∧
    (onRegs markFailed State.reset).regs.busy = false ∧ (onRegs markFailed State.reset).regs.mode ≠ .ready := by decide

theorem witness_BusyBlocksTheHost :
    (reading 1 0 []).regs.busy = true ∧ ∃ t, step (reading 1 0 []) = .next t := ⟨rfl, _, rfl⟩

theorem witness_CmdResetRuns :
    (running .reset 0 []).regs.busy = true ∧ (running .reset 0 []).regs.op = .reset ∧ (running .reset 0 []).regs.upc = 0 ∧
    (running .reset 0 []).regs.devAddr = some 0x77 := by decide

/-- The first and the last level. -/
theorem witness_CmdConvD1Runs :
    ∀ i ∈ [(0 : U3), 4], (reading 0 i []).regs.busy = true ∧ (reading 0 i []).regs.op = .readSample ∧
      (reading 0 i []).regs.upc = 0 ∧ (reading 0 i []).regs.osri = some i ∧
      (reading 0 i []).regs.devAddr = some 0x77 := by decide

/-- The first and the last level. -/
theorem witness_CmdConvD2Runs :
    ∀ i ∈ [(0 : U3), 4], (reading 3 i []).regs.busy = true ∧ (reading 3 i []).regs.op = .readSample ∧
      (reading 3 i []).regs.upc = 3 ∧ (reading 3 i []).regs.osri = some i ∧
      (reading 3 i []).regs.devAddr = some 0x77 := by decide

/-- Both steps that read the ADC. -/
theorem witness_CmdAdcReadRuns :
    ∀ u ∈ [(2 : U4), 5], (reading u 0 []).regs.busy = true ∧ (reading u 0 []).regs.op = .readSample ∧
      (reading u 0 []).regs.devAddr = some 0x77 ∧ (reading u 0 []).regs.upc = u := by decide

/-- The first and the last word. -/
theorem witness_CmdPromReadRuns :
    ∀ k ∈ [(0 : Fin 8), 7], (initing cv1 (.ofNat 4 k.val) []).regs.busy = true ∧
      (initing cv1 (.ofNat 4 k.val) []).regs.op = .init ∧ (initing cv1 (.ofNat 4 k.val) []).regs.upc.toNat = k.val ∧
      (initing cv1 (.ofNat 4 k.val) []).regs.devAddr = some 0x77 := by decide

/-- An idle block, and blocks whose step emits another byte, is a delay, the check or the compensation. -/
theorem witness_SensorCommandOnlyAtItsStep :
    fieldsOf .cmdReset = .bus (.fixed 0x1E) ∧ (ready []).regs.busy = false ∧
    ∀ s ∈ [reading 2 0 [], reading 1 0 [], running .reset 1 [], initing cv1 8 [], reading 6 0 []],
      currentAction s.params s.regs ≠ .ok (.bus (encode .cmdReset)) := by
  refine ⟨rfl, rfl, ?_⟩
  simp only [List.forall_mem_cons, List.not_mem_nil, false_imp_iff, implies_true, and_true]
  exact ⟨nofun, nofun, nofun, nofun, nofun⟩

/-- The delay of RESET, and both delays of READ_SAMPLE at the first and the last level. -/
theorem witness_DelaySteps :
    ((running .reset 1 []).resetLine.head? ≠ some true ∧ (running .reset 1 []).regs.busy = true ∧
      (running .reset 1 []).regs.op = .reset ∧ (running .reset 1 []).regs.upc = 1) ∧
    ∀ i ∈ [(0 : U3), 4], ∀ u ∈ [(1 : U4), 4], (reading u i []).resetLine.head? ≠ some true ∧
      (reading u i []).regs.busy = true ∧ (reading u i []).regs.op = .readSample ∧ (reading u i []).regs.osri = some i ∧
      (reading u i []).regs.upc = u := by decide

theorem initing_at_check (w : PromWords) :
    (initing w 8 []).resetLine.head? ≠ some true ∧ (initing w 8 []).regs.busy = true ∧ (initing w 8 []).regs.op = .init ∧
    (initing w 8 []).regs.upc = 8 ∧ (initing w 8 []).regs.w = w.map some :=
  ⟨by simp [initing, running, ready, State.reset], rfl, rfl, rfl, held_eq w⟩

/-- Words that pass the check and words that do not. -/
theorem witness_CrcCheckStep :
    (∀ w ∈ [cv1, cv5], (initing w 8 []).resetLine.head? ≠ some true ∧ (initing w 8 []).regs.busy = true ∧
      (initing w 8 []).regs.op = .init ∧ (initing w 8 []).regs.upc = 8 ∧ (initing w 8 []).regs.w = w.map some) ∧
    crc4 cv1 = loNibble cv1[7] ∧ crc4 cv5 ≠ loNibble cv5[7] :=
  ⟨fun w _ => initing_at_check w, by decide +kernel, by decide +kernel⟩

theorem witness_CompensateStep :
    (reading 6 4 []).resetLine.head? ≠ some true ∧ (reading 6 4 []).regs.busy = true ∧
    (reading 6 4 []).regs.op = .readSample ∧ (reading 6 4 []).regs.upc = 6 ∧ (reading 6 4 []).regs.d1 = some 9085466 ∧
    (reading 6 4 []).regs.d2 = some 8569150 ∧ (reading 6 4 []).regs.cal = some cal1 := by decide

theorem witness_RaiseEndsOperation : ∃ t, step (raise (.transport e1 0x1E) (running .reset 0 [])) = .next t := ⟨_, rfl⟩

/-- The host issues a word on a ready block whose transport answers so. -/
def starting (b : Byte) (l : List BusAnswer) : State := issuing b (ready l)

/-- The eight `Ok` answers of a PROM that holds the words. -/
def promAnswers (w : PromWords) : List BusAnswer :=
  (List.finRange 8).map fun k => .ok (hiByte w[k]) (loByte w[k]) (Vector.replicate 8 (0 : Byte))[k]

/-- An accepted and a rejected word set. -/
theorem witness_InitRunsToItsEnd :
    (∀ w ∈ [cv1, cv5], (starting 0x10 (promAnswers w)).resetLine = [] ∧
      (starting 0x10 (promAnswers w)).regs.busy = false ∧
      (starting 0x10 (promAnswers w)).hostMoves = .issue (if false then 0x11 else 0x10) :: [] ∧
      (starting 0x10 (promAnswers w)).answers =
        (List.finRange 8).map (fun k => .ok (hiByte w[k]) (loByte w[k]) (Vector.replicate 8 (0 : Byte))[k]) ++ []) ∧
    crc4 cv1 = loNibble cv1[7] ∧ crc4 cv5 ≠ loNibble cv5[7] :=
  ⟨fun w _ => ⟨rfl, rfl, rfl, (List.append_nil _).symm⟩, by decide +kernel, by decide +kernel⟩

/-- The first and the last PROM step. -/
theorem witness_InitStopsAtTransportError :
    ∀ k ∈ [(0 : Fin 8), 7], ∀ s ∈ [starting 0x11 (((List.finRange 8).take k.val).map (fun j =>
        .ok (hiByte cv1[j]) (loByte cv1[j]) (Vector.replicate 8 (0 : Byte))[j]) ++ .err e1 :: [])],
      s.resetLine = [] ∧ s.regs.busy = false ∧ s.hostMoves = .issue (if true then 0x11 else 0x10) :: [] ∧
      s.answers = ((List.finRange 8).take k.val).map (fun j =>
        .ok (hiByte cv1[j]) (loByte cv1[j]) (Vector.replicate 8 (0 : Byte))[j]) ++ .err e1 :: [] := by
  intro k _ s hs
  obtain rfl := List.mem_singleton.1 hs
  exact ⟨rfl, rfl, rfl, rfl⟩

theorem witness_ResetRunsToItsEnd :
    (starting 0x20 [okV1]).resetLine = [] ∧ (starting 0x20 [okV1]).regs.busy = false ∧
    (starting 0x20 [okV1]).regs.mode = .ready ∧ (starting 0x20 [okV1]).regs.devAddr = some 0x77 ∧
    (starting 0x20 [okV1]).hostMoves = .issue 0x20 :: [] ∧ (starting 0x20 [okV1]).answers = .ok 0x8A 0xA2 0x1A :: [] := by
  decide

/-- The first and the last level. -/
theorem witness_ReadSampleRunsToItsEnd :
    ∀ b ∈ [(0x30 : Byte), 0x38], ∀ s ∈ [starting b [okV1, okV1, okV1, .ok 0x82 0xC1 0x3E]],
      s.resetLine = [] ∧ s.regs.busy = false ∧ s.regs.mode = .ready ∧ s.regs.devAddr = some 0x77 ∧
      s.regs.cal = some cal1 ∧ s.hostMoves = .issue b :: [] ∧
      s.answers = .ok 0x8A 0xA2 0x1A :: .ok 0x8A 0xA2 0x1A :: .ok 0x8A 0xA2 0x1A :: .ok 0x82 0xC1 0x3E :: [] := by decide

/-- Each of the four transactions. -/
theorem witness_ReadSampleStopsAtTransportError :
    ∀ u ∈ ([0, 2, 3, 5] : List U4), RegsInv (reading u 0 [.err e1]).regs ∧
      (reading u 0 [.err e1]).resetLine.head? ≠ some true ∧ (reading u 0 [.err e1]).regs.busy = true ∧
      (reading u 0 [.err e1]).regs.op = .readSample ∧ (reading u 0 [.err e1]).regs.upc = u ∧
      nextAnswer (reading u 0 [.err e1]) = .err e1 ∧ ∃ t, step (reading u 0 [.err e1]) = .next t := by
  intro u hu
  have : u.toNat ≤ 6 := by revert hu; revert u; decide
  refine ⟨witness_inv_reading u this 0 (by decide) _, by simp [reading, running, ready, State.reset], rfl, rfl, rfl, rfl, ?_⟩
  simp only [List.mem_cons, List.not_mem_nil, or_false] at hu
  rcases hu with rfl | rfl | rfl | rfl <;> exact ⟨_, rfl⟩

theorem witness_OsrRomContents : (4 : U3).toNat ≤ 4 ∧ 4 < (5 : U3).toNat := by decide

theorem witness_OsrMonotone : (3 : U3) < 4 ∧ osrEntry 3 = some ⟨5, 6⟩ ∧ osrEntry 4 = some ⟨10, 8⟩ := by decide

/-- Each clause at its boundary bits. -/
theorem witness_CrcSingleBitDetection :
    ((6 : Fin 8).val < 7) ∧ (8 ≤ (8 : Fin 16).val) ∧ ((7 : Fin 8).val = 7 ∧ (3 : Fin 16).val < 4) ∧
    ((7 : Fin 8).val = 7 ∧ 4 ≤ (4 : Fin 16).val ∧ (4 : Fin 16).val < 8) ∧
    ((7 : Fin 8).val = 7 ∧ 4 ≤ (7 : Fin 16).val ∧ (7 : Fin 16).val < 8) := by decide

/-- Both sides of both branch boundaries (V2 to V5). -/
theorem witness_CompensationFormulas :
    2000 ≤ (compensate 9085466 8566784 cal1).temp0 ∧
    (-1500 ≤ (compensate 9085466 8566783 cal1).temp0 ∧ (compensate 9085466 8566783 cal1).temp0 < 2000) ∧
    (-1500 ≤ (compensate 9085466 7530059 cal1).temp0 ∧ (compensate 9085466 7530059 cal1).temp0 < 2000) ∧
    (compensate 9085466 7529763 cal1).temp0 < -1500 := by decide

theorem witness_CompensationRanges : (0 : Int) ≤ 0 ∧ (0 : Int) ≤ 16777215 ∧ (16777215 : Int) ≤ 16777215 := by decide

theorem witness_ExactEqualsWrapping : rawWf 0 = true ∧ rawWf 0x00FFFFFF = true := by decide

theorem witness_VeryLowBranchAdds : (-1501 : Int) < -1500 := by decide

/-- The last integer below the overflow threshold and the threshold. -/
theorem witness_FloatRoundsToNearestEven :
    (0 < 1 ∧ 2 ^ 128 - 2 ^ 103 - 1 < (2 ^ 128 - 2 ^ 103) * 1) ∧ (0 < 1 ∧ (2 ^ 128 - 2 ^ 103) * 1 ≤ 2 ^ 128 - 2 ^ 103) := by
  decide

theorem witness_FloatConvDividesByHundred : Params.default.floatConv = .standard := rfl

/-- Ties to even on both sides, a significand that rounds up to the next binade, the least normal number, half the least
subnormal one, and the two sides of the overflow threshold. Hand calculation from IEEE 754. -/
theorem test_rne32 :
    rne32 false 16777217 1 = 0x4B800000 ∧ rne32 true 16777219 1 = 0xCB800002 ∧ rne32 false 33554431 1 = 0x4C000000 ∧
    rne32 false 1 (2 ^ 126) = 0x00800000 ∧ rne32 false 1 (2 ^ 150) = 0 ∧ rne32 false 3 (2 ^ 150) = 2 ∧
    rne32 false (2 ^ 128 - 2 ^ 103 - 1) 1 = 0x7F7FFFFF ∧ rne32 true (2 ^ 128 - 2 ^ 103) 1 = 0xFF800000 := by
  decide +kernel

theorem witness_FloatExactUpTo24Bits : (16777216 : Int).natAbs ≤ 16777216 ∧ (-16777216 : Int).natAbs ≤ 16777216 := by decide

/-- A step of a busy block, of each operation. -/
theorem witness_StepKeepsInvariant :
    (RegsInv (reading 2 0 [okV1]).regs ∧ ∃ t, step (reading 2 0 [okV1]) = .next t) ∧
    (RegsInv (running .reset 1 []).regs ∧ ∃ t, step (running .reset 1 []) = .next t) ∧
    (RegsInv (initing cv1 0 [okV1]).regs ∧ ∃ t, step (initing cv1 0 [okV1]) = .next t) :=
  ⟨⟨witness_inv_reading 2 (by decide) 0 (by decide) _, _, rfl⟩, ⟨witness_inv_resetting 1 (by decide) _, _, rfl⟩,
   ⟨witness_inv_initing cv1 0 (by decide) _, _, rfl⟩⟩

/-- A busy block, and an idle one whose host issues a word. -/
theorem witness_OnlyHostReadsFault :
    (RegsInv (reading 2 0 [okV1]).regs ∧ noHostRead (reading 2 0 [okV1])) ∧
    (RegsInv (starting 0x20 []).regs ∧ noHostRead (starting 0x20 [])) :=
  ⟨⟨witness_inv_reading 2 (by decide) 0 (by decide) _, .inl rfl⟩,
   ⟨witness_inv_ready [], .inr fun m h => ⟨0x20, (Option.some.inj h).symm⟩⟩⟩

/-- An outcome with registers is a next state. -/
theorem next_of_isSome (o : Host.Outcome State Fault Refusal) (h : (regsAfter o).isSome = true) : ∃ t, o = .next t := by
  cases o <;> simp_all [regsAfter]

/-- Each clause of the relation: the block reset, an accepted INIT, the check with either outcome, a failed PROM read, and
a step that leaves `MODE`. -/
theorem witness_ModeTransitions :
    (RegsInv ({ reading 2 0 [] with resetLine := [true] } : State).regs ∧
      resetAsserted { reading 2 0 [] with resetLine := [true] } ∧
      ∃ t, step { reading 2 0 [] with resetLine := [true] } = .next t) ∧
    (RegsInv (starting 0x10 []).regs ∧ ¬ resetAsserted (starting 0x10 []) ∧ acceptsInit (starting 0x10 []) ∧
      ∃ t, step (starting 0x10 []) = .next t) ∧
    (∀ w ∈ [cv1, cv5], RegsInv (initing w 8 []).regs ∧ ¬ resetAsserted (initing w 8 []) ∧
      (initing w 8 []).regs.upc = 8 ∧ ∃ t, step (initing w 8 []) = .next t) ∧
    (RegsInv (initing cv1 3 [.err e1]).regs ∧ ¬ resetAsserted (initing cv1 3 [.err e1]) ∧
      (initing cv1 3 [.err e1]).regs.upc ≠ 8 ∧ ∃ t, step (initing cv1 3 [.err e1]) = .next t) ∧
    (RegsInv (reading 2 0 [okV1]).regs ∧ ¬ resetAsserted (reading 2 0 [okV1]) ∧ ¬ acceptsInit (reading 2 0 [okV1]) ∧
      ∃ t, step (reading 2 0 [okV1]) = .next t) := by
  refine ⟨⟨witness_inv_reading 2 (by decide) 0 (by decide) _, rfl, _, rfl⟩,
    ⟨witness_inv_ready [], nofun, ⟨rfl, .inl rfl⟩, _, rfl⟩, ?_,
    ⟨witness_inv_initing cv1 3 (by decide) _, nofun, by decide, _, rfl⟩,
    ⟨witness_inv_reading 2 (by decide) 0 (by decide) _, nofun, (fun h => nomatch h.1), _, rfl⟩⟩
  intro w hw
  refine ⟨witness_inv_initing w 8 (by decide) _, nofun, rfl, ?_⟩
  simp only [List.mem_cons, List.not_mem_nil, or_false] at hw
  rcases hw with rfl | rfl <;> exact next_of_isSome _ (by decide +kernel)

theorem witness_CalibrationImmutable : ∃ t, step (initing cv1 8 []) = .next t := next_of_isSome _ (by decide +kernel)

/-- The first step of the longest operation. -/
theorem witness_OperationsEnd :
    RegsInv (initing cv1 0 []).regs ∧ (initing cv1 0 []).regs.busy = true ∧ (initing cv1 0 []).resetLine = [] :=
  ⟨witness_inv_initing cv1 0 (by decide) _, rfl, rfl⟩

theorem witness_OneAllowedEventPerStep :
    (∃ t, step (reading 2 0 [okV1]) = .next t) ∧ (reading 2 0 [okV1]).regs.devAddr = some 0x77 := ⟨⟨_, rfl⟩, rfl⟩

theorem witness_StepKeepsReadsDelayed :
    (RegsInv beforeRead.regs ∧ HazardInv beforeRead ∧ ∃ t, step beforeRead = .next t) ∧
    (RegsInv afterRead.regs ∧ HazardInv afterRead ∧ ∃ t, step afterRead = .next t) :=
  ⟨⟨witness_inv_reading 2 (by decide) 0 (by decide) _, witness_hazard, _, rfl⟩,
   ⟨witness_inv_reading 3 (by decide) 0 (by decide) _, witness_hazard_afterRead, _, rfl⟩⟩

/-- Two states that differ in `STATUS`. -/
theorem witness_RecordsNeverFeedBack :
    hideRecords (reading 2 0 [okV1]) = hideRecords (onRegs (fun r => { r with status := .errChecksum }) (reading 2 0 [okV1])) ∧
    reading 2 0 [okV1] ≠ onRegs (fun r => { r with status := .errChecksum }) (reading 2 0 [okV1]) ∧
    noHostRead (reading 2 0 [okV1]) ∧ ∃ t, step (reading 2 0 [okV1]) = .next t :=
  ⟨rfl, by decide, .inl rfl, _, rfl⟩

theorem witness_ParametersFixed : ∃ t, step (reading 2 0 [okV1]) = .next t := ⟨_, rfl⟩

end Sys2Proof.Tests
end

section
/-! What a step leaves of the open parameters (00_scope.md R5): the rules for the bodies of the sequencer's steps, the
moves of the block, and the machine's step. -/

namespace Sys2Proof.Proofs

open Sys2Proof Sys2Proof.Machine Sys2Proof.Laws

/-! ## The bodies of the sequencer's steps -/

@[simp] theorem writeCommand_params (c a : Byte) (s : State) : (writeCommand c a s).params = s.params := by
  cases h : nextAnswer s with
  | ok b0 b1 b2 => simp [writeCommand_ok c a s b0 b1 b2 h]
  | err e => simp [writeCommand_err c a s e h]

@[simp] theorem adcRead_params (a : Byte) (s : State) : (adcRead a s).params = s.params := by
  cases h : nextAnswer s with
  | ok b0 b1 b2 => simp [adcRead_ok a s b0 b1 b2 h]
  | err e => simp [adcRead_err a s e h]

@[simp] theorem promRead_params (k : Fin 8) (a : Byte) (s : State) : (promRead k a s).params = s.params := by
  cases h : nextAnswer s with
  | ok b0 b1 b2 => simp [promRead_ok k a s b0 b1 b2 h]
  | err e => simp [promRead_err k a s e h]

@[simp] theorem delayStep_params (ms : Byte) (s : State) : (delayStep ms s).params = s.params := by
  by_cases h : s.regs.op = .reset
  · simp [delayStep_reset ms s h]
  · simp [delayStep_other ms s h]

/-! ## The moves of the block and the machine's step -/

/-- A move of the block keeps the parameters: the host's moves and the ends of an operation write registers and the
host's log alone, and the bodies of the sequencer's steps have their rules above. -/
theorem coreMove_params {s t : State} (move : CoreMove s t) : t.params = s.params := by
  cases move with
  | rest => rfl
  | init | reset | readSample => exact onRegs_params _ _
  | notReady | illegal => exact raise_params _ _
  | hostRead => exact tellHost_params _ _
  | write c a => exact writeCommand_params c a s
  | adcRead a => exact adcRead_params a s
  | promRead k a => exact promRead_params k a s
  | delay ms => exact delayStep_params ms s
  | accept | compensate => rw [doneOk_params, onRegs_params]
  | reject => rw [raise_params, onRegs_params]

/-- Settles O57: a step is the block reset, which writes registers alone, or a move of the block. -/
theorem parametersFixed : Obligations.ParametersFixed := by
  intro s t h
  rcases step_next s t h with ⟨-, rfl⟩ | ⟨-, move⟩
  · exact blockReset_params _
  · exact (coreMove_params move).trans rfl

end Sys2Proof.Proofs
end

section
/-! A state goes on exactly by the moves of the block: the converse of the inversion of `coreStep` and of `step`, and
what a step is on an idle block (10_state.md R24) and at the sequencer's bus steps (43_sequencer.md R89). -/

namespace Sys2Proof.Proofs

open Sys2Proof Sys2Proof.Machine Sys2Proof.Laws

/-! ## The step by the reset input's sample -/

/-- The state once the reset input's sample is taken (R118). -/
def sampled (s : State) : State := { s with resetLine := s.resetLine.tail }

theorem sampleReset_sampled (s : State) : sampleReset s = (s.resetLine.head?.getD false, sampled s) := sampleReset_eq s

theorem step_of_reset {s : State} (asserted : s.resetLine.head? = some true) :
    step s = .next (blockReset (sampled s)) := by
  simp [step, sampleReset_sampled, asserted]

theorem step_of_not_reset {s : State} (released : s.resetLine.head? ≠ some true) : step s = coreStep (sampled s) := by
  rw [step, sampleReset_sampled]
  cases h : s.resetLine.head? with
  | none => rfl
  | some b =>
    cases b with
    | true => exact absurd h released
    | false => rfl

/-! ## The step of an idle block, by the host's move -/

theorem coreStep_issue {s : State} {b : Byte} {later : List HostMove} {i : Instr} (idle : s.regs.busy = false)
    (moves : s.hostMoves = .issue b :: later) (word : decodeHost b = .ok i) :
    coreStep s = exec i { s with hostMoves := later } := by
  simp [coreStep, fetch, fetchIdle, idle, moves, word]

theorem coreStep_illegal {s : State} {b : Byte} {later : List HostMove} {r : Reject} (idle : s.regs.busy = false)
    (moves : s.hostMoves = .issue b :: later) (word : decodeHost b = .error r) :
    coreStep s = .next (raise .illegalCommand { s with hostMoves := later }) := by
  simp [coreStep, fetch, fetchIdle, idle, moves, word, refuseIllegal]

theorem coreStep_read {s : State} {h : HostReg} {later : List HostMove} (idle : s.regs.busy = false)
    (moves : s.hostMoves = .read h :: later) : coreStep s = hostRead h { s with hostMoves := later } := by
  simp [coreStep, fetch, fetchIdle, idle, moves]

theorem coreStep_readAt {s : State} {offset : Nat} {later : List HostMove} (idle : s.regs.busy = false)
    (moves : s.hostMoves = .readAt offset :: later) : coreStep s = hostReadAt offset { s with hostMoves := later } := by
  simp [coreStep, fetch, fetchIdle, idle, moves]

/-! ## The host words and what they mean -/

theorem exec_initWord (a0 : Bool) :
    ∃ i, decodeHost (joinHost ⟨1, 0, BitVec.ofBool a0⟩) = .ok i ∧ ∀ s, exec i s = acceptInit a0 s := by
  cases a0 with
  | false => exact ⟨.init77, by decide, fun _ => rfl⟩
  | true => exact ⟨.init76, by decide, fun _ => rfl⟩

theorem exec_resetWord : ∃ i, decodeHost (joinHost ⟨2, 0, 0⟩) = .ok i ∧ ∀ s, exec i s = acceptWhenReady startReset s :=
  ⟨.reset, by decide, fun _ => rfl⟩

theorem exec_readSampleWord (n : U3) (level : osrIndexWf n = true) :
    ∃ i, decodeHost (joinHost ⟨3, n, 0⟩) = .ok i ∧ ∀ s, exec i s = acceptWhenReady (startReadSample n) s := by
  have levels : ∀ n : U3, osrIndexWf n = true → n = 0 ∨ n = 1 ∨ n = 2 ∨ n = 3 ∨ n = 4 := by decide
  rcases levels n level with rfl | rfl | rfl | rfl | rfl
  · exact ⟨.readSampleOsr256, by decide, fun _ => rfl⟩
  · exact ⟨.readSampleOsr512, by decide, fun _ => rfl⟩
  · exact ⟨.readSampleOsr1024, by decide, fun _ => rfl⟩
  · exact ⟨.readSampleOsr2048, by decide, fun _ => rfl⟩
  · exact ⟨.readSampleOsr4096, by decide, fun _ => rfl⟩

/-! ## The step of a busy block, by the sequencer's action -/

theorem coreStep_bus {s : State} {c : Byte} {i : Instr} (busy : s.regs.busy = true)
    (action : currentAction s.params s.regs = .ok (.bus c)) (command : decodeBus c = .ok i) :
    coreStep s = exec i s := by
  simp [coreStep, fetch, fetchBusy, busy, action, command]

theorem coreStep_delay {s : State} {ms : Byte} (busy : s.regs.busy = true)
    (action : currentAction s.params s.regs = .ok (.delay ms)) : coreStep s = .next (delayStep ms s) := by
  simp [coreStep, fetch, fetchBusy, busy, action]

theorem coreStep_crcCheck {s : State} (busy : s.regs.busy = true)
    (action : currentAction s.params s.regs = .ok .crcCheck) : coreStep s = crcCheck s := by
  simp [coreStep, fetch, fetchBusy, busy, action]

theorem coreStep_compensate {s : State} (busy : s.regs.busy = true)
    (action : currentAction s.params s.regs = .ok .compensate) : coreStep s = compensateStep s := by
  simp [coreStep, fetch, fetchBusy, busy, action]

/-- The PROM commands are sensor commands with a two-byte response. -/
theorem promCommand_decodes : ∀ k : Fin 8, decodeBus (promCommand k) = .ok (promAt (BitVec.ofNat 3 k)) ∧
    responseLength (promCommand k) = 2 := by decide

/-- A sensor command at the step that emits it makes its transaction. -/
theorem emitCommand_at_step {c a : Byte} {s : State} (body : Byte → State → State) (busy : s.regs.busy = true)
    (action : currentAction s.params s.regs = .ok (.bus c)) (address : s.regs.devAddr = some a) :
    emitCommand c body s = .next (body a s) :=
  (emitCommand_eq_next c body s _).2 ⟨(emits_iff c s).2 ⟨busy, action⟩, a, address, rfl⟩

/-! ## Every move is a step -/

theorem coreStep_of_coreMove {s t : State} (move : CoreMove s t) : coreStep s = .next t := by
  cases move with
  | rest idle moves => simp [coreStep, fetch, fetchIdle, idle, moves]
  | init a0 later idle moves =>
    obtain ⟨i, word, meaning⟩ := exec_initWord a0
    rw [coreStep_issue idle moves word, meaning]
    exact (acceptInit_eq_next _ _ _).2 ⟨idle, rfl⟩
  | reset later idle ready moves =>
    obtain ⟨i, word, meaning⟩ := exec_resetWord
    rw [coreStep_issue idle moves word, meaning]
    exact (acceptWhenReady_eq_next _ _ _).2 ⟨idle, .inl ⟨ready, rfl⟩⟩
  | readSample n later idle ready index moves =>
    obtain ⟨i, word, meaning⟩ := exec_readSampleWord n index
    rw [coreStep_issue idle moves word, meaning]
    exact (acceptWhenReady_eq_next _ _ _).2 ⟨idle, .inl ⟨ready, rfl⟩⟩
  | notReady b later idle mode word moves =>
    have meaning : ∃ i start, decodeHost b = .ok i ∧ ∀ s, exec i s = acceptWhenReady start s := by
      rcases word with rfl | ⟨n, index, rfl⟩
      · obtain ⟨i, h⟩ := exec_resetWord
        exact ⟨i, _, h⟩
      · obtain ⟨i, h⟩ := exec_readSampleWord n index
        exact ⟨i, _, h⟩
    obtain ⟨i, start, word, meaning⟩ := meaning
    rw [coreStep_issue idle moves word, meaning]
    exact (acceptWhenReady_eq_next _ _ _).2 ⟨idle, .inr ⟨mode, rfl⟩⟩
  | illegal b later idle word moves =>
    obtain ⟨r, word⟩ := word
    exact coreStep_illegal idle moves word
  | hostRead m h v later idle names value moves =>
    have read : hostRead h { s with hostMoves := later } =
        .next (tellHost (.value h v) { s with hostMoves := later }) := (hostRead_eq_next _ _ _).2 ⟨v, value, rfl⟩
    rcases names with rfl | ⟨offset, rfl, entry⟩
    · rw [coreStep_read idle moves, read]
    · rw [coreStep_readAt idle moves, hostReadAt]
      simp only [entry, read]
  | write c a busy action command length address =>
    obtain ⟨i, command⟩ := command
    rw [coreStep_bus busy action command]
    rcases exec_sensorCommand c i command s with ⟨-, meaning⟩ | ⟨rfl, -⟩ | ⟨k, rfl, -⟩
    · rw [meaning, emitCommand_at_step _ busy action address]
    · exact absurd length (by decide)
    · rw [(promCommand_decodes k).2] at length
      exact absurd length (by decide)
  | adcRead a busy action address =>
    rw [coreStep_bus busy action (i := .cmdAdcRead) (by decide)]
    exact emitCommand_at_step _ busy action address
  | promRead k a busy action address =>
    have command := (promCommand_decodes k).1
    rw [coreStep_bus busy action command]
    rcases exec_sensorCommand _ _ command s with ⟨length, -⟩ | ⟨h, -⟩ | ⟨k', h, meaning⟩
    · rw [(promCommand_decodes k).2] at length
      exact absurd length (by decide)
    · exact absurd h (command_families_apart k).2.1
    · obtain rfl := promCommand_injective _ _ h
      rw [meaning, emitCommand_at_step _ busy action address]
  | delay ms busy action => exact coreStep_delay busy action
  | accept w busy action words nibbles =>
    rw [coreStep_crcCheck busy action]
    exact (crcCheck_eq_next _ _).2 ⟨w, (promWords_eq_some _ _).2 words, .inl ⟨nibbles, rfl⟩⟩
  | reject w busy action words nibbles =>
    rw [coreStep_crcCheck busy action]
    exact (crcCheck_eq_next _ _).2 ⟨w, (promWords_eq_some _ _).2 words, .inr ⟨nibbles, rfl⟩⟩
  | compensate d1 d2 c busy action raw1 raw2 cal =>
    rw [coreStep_compensate busy action]
    exact (compensateStep_eq_next _ _).2 ⟨d1, d2, c, raw1, raw2, cal, rfl⟩

/-- A step that goes on is the block reset or a move of the block, by the reset input's sample. -/
theorem step_eq_next (s t : State) : step s = .next t ↔
    (s.resetLine.head? = some true ∧ t = blockReset (sampled s)) ∨
    (s.resetLine.head? ≠ some true ∧ CoreMove (sampled s) t) := by
  refine ⟨step_next s t, ?_⟩
  rintro (⟨asserted, rfl⟩ | ⟨released, move⟩)
  · exact step_of_reset asserted
  · exact (step_of_not_reset released).trans (coreStep_of_coreMove move)

end Sys2Proof.Proofs
end

section
/-! The invariant of the registers (10_state.md R11 to R21): what each named update of the registers needs to keep it,
then the moves of the block and the machine's step. -/

namespace Sys2Proof.Proofs

open Sys2Proof Sys2Proof.Machine Sys2Proof.Laws

/-! ## The updates that open an operation -/

theorem regsInv_startInit {r : Regs} (inv : RegsInv r) (a0 : Bool) : RegsInv (startInit a0 r) :=
  { inv with
    ready := nofun
    noCal := fun _ => rfl
    idle := nofun
    running := fun _ => by simp
    address := fun a h => by
      obtain rfl : addressOf a0 = a := by simpa using h
      cases a0 <;> decide
    addressed := fun _ => by simp
    initStep := fun _ => by simp
    resetStep := nofun
    readStep := nofun
    sample := nofun }

theorem regsInv_startReset {r : Regs} (inv : RegsInv r) (ready : r.mode = .ready) : RegsInv (startReset r) :=
  { inv with
    idle := nofun
    running := fun _ => by simp
    addressed := fun _ => inv.addressed (.inr (by simp [ready]))
    initStep := nofun
    resetStep := fun _ => by simp [ready]
    readStep := nofun }

theorem regsInv_startReadSample {r : Regs} (inv : RegsInv r) (ready : r.mode = .ready) {n : U3}
    (level : osrIndexWf n = true) : RegsInv (startReadSample n r) :=
  { inv with
    idle := nofun
    running := fun _ => by simp
    addressed := fun _ => inv.addressed (.inr (by simp [ready]))
    index := fun i h => by
      obtain rfl : n = i := by simpa using h
      exact level
    initStep := nofun
    resetStep := nofun
    readStep := fun _ => by simp [ready]
    sample := nofun }

/-! ## The updates within an operation -/

/-- The current step is not its operation's last, and what it had to read is read: what `advance` needs to keep the
step clauses of the invariant. -/
structure StepDone (r : Regs) : Prop where
  init : r.op = .init → r.upc.toNat < 8 ∧ ∀ k : Fin 8, k.val = r.upc.toNat → r.w[k] ≠ none
  reset : r.op = .reset → r.upc.toNat = 0
  read : r.op = .readSample → r.upc.toNat < 6 ∧ (r.upc.toNat = 2 → r.d1 ≠ none) ∧ (r.upc.toNat = 5 → r.d2 ≠ none)

/-- The step index moves on without wrapping around below its last value. -/
theorem advance_upc_toNat {r : Regs} (small : r.upc.toNat < 8) : (advance r).upc.toNat = r.upc.toNat + 1 := by
  rw [advance_upc]
  bv_omega

theorem regsInv_advance {r : Regs} (inv : RegsInv r) (busy : r.busy = true) (done : StepDone r) :
    RegsInv (advance r) :=
  { inv with
    idle := fun h => by simp [busy] at h
    initStep := fun h => by
      obtain ⟨small, word⟩ := done.init h
      obtain ⟨mode, -, words⟩ := inv.initStep h
      rw [advance_upc_toNat small]
      refine ⟨mode, small, fun k past => ?_⟩
      rcases Nat.lt_succ_iff_lt_or_eq.1 past with before | current
      · exact words k before
      · exact word k current
    resetStep := fun h => by
      have first := done.reset h
      rw [advance_upc_toNat (by omega), first]
      exact ⟨(inv.resetStep h).1, le_refl 1⟩
    readStep := fun h => by
      obtain ⟨small, pressure, temperature⟩ := done.read h
      obtain ⟨mode, -, level, valid, pressureRead, temperatureRead⟩ := inv.readStep h
      rw [advance_upc_toNat (by omega)]
      refine ⟨mode, small, level, valid, fun past => ?_, fun past => ?_⟩
      · rcases Nat.lt_succ_iff_lt_or_eq.1 past with before | current
        · exact pressureRead before
        · exact pressure current.symm
      · rcases Nat.lt_succ_iff_lt_or_eq.1 past with before | current
        · exact temperatureRead before
        · exact temperature current.symm }

/-- A word of the loader buffer is written outside `READY` only. -/
theorem regsInv_putWord {r : Regs} (inv : RegsInv r) (mode : r.mode ≠ .ready) (k : Fin 8) (v : U16) :
    RegsInv (putWord k v r) :=
  { inv with
    ready := fun h => absurd h mode
    initStep := fun h => by
      obtain ⟨uninit, last, words⟩ := inv.initStep h
      refine ⟨uninit, last, fun j before => ?_⟩
      by_cases same : k.val = j.val
      · simp [same]
      · simpa [Vector.getElem_set, same] using words j before }

theorem rawWf_rawValue (b0 b1 b2 : Byte) : rawWf (rawValue b0 b1 b2) = true := by
  have bound := (b0 ++ b1 ++ b2 : BitVec 24).isLt
  simp only [rawWf, rawValue, BitVec.toNat_setWidth, decide_eq_true_eq]
  omega

theorem regsInv_putRaw {r : Regs} (inv : RegsInv r) {v : S32} (legal : rawWf v = true) : RegsInv (putRaw v r) := by
  by_cases pressure : r.upc = 2
  · rw [putRaw_pressure v r pressure]
    exact { inv with
      raw := fun d h => h.elim (fun h => Option.some.inj h ▸ legal) fun h => inv.raw d (.inr h)
      readStep := fun h => by
        obtain ⟨mode, last, level, valid, -, temperatureRead⟩ := inv.readStep h
        exact ⟨mode, last, level, valid, fun _ => by simp, temperatureRead⟩ }
  · rw [putRaw_temperature v r pressure]
    exact { inv with
      raw := fun d h => h.elim (fun h => inv.raw d (.inl h)) fun h => Option.some.inj h ▸ legal
      readStep := fun h => by
        obtain ⟨mode, last, level, valid, pressureRead, -⟩ := inv.readStep h
        exact ⟨mode, last, level, valid, pressureRead, fun _ => by simp⟩ }

/-! ## The end of an operation -/

/-- The error's command byte, if it has one, is a sensor command. -/
def namesCommand (k : ErrorKind) : Prop := ∀ c, errorCmd k = some c → ∃ i, decodeBus c = .ok i

/-- What the end of an operation asks of the registers: the clauses of the invariant that no step of an operation and
no outcome record has a part in. -/
structure MayEnd (r : Regs) : Prop where
  ready : r.mode = .ready → Calibrated r
  noCal : r.mode ≠ .ready → r.cal = none
  address : ∀ a, r.devAddr = some a → devAddrWf a = true
  addressed : r.mode ≠ .uninit → r.devAddr ≠ none
  index : ∀ i, r.osri = some i → osrIndexWf i = true
  raw : ∀ d, r.d1 = some d ∨ r.d2 = some d → rawWf d = true
  sample : r.sampleValid = true → r.out ≠ none ∧ r.mode = .ready
  acc : r.acc = none

theorem mayEnd_of_regsInv {r : Regs} (inv : RegsInv r) : MayEnd r :=
  { inv with addressed := fun h => inv.addressed (.inr h) }

theorem regsInv_raise {r : Regs} (may : MayEnd r) {k : ErrorKind} (command : namesCommand k) :
    RegsInv (raiseRegs k r) :=
  { may with
    idle := fun _ => by simp
    running := nofun
    addressed := fun h => may.addressed (h.resolve_left (by simp))
    initStep := nofun
    resetStep := nofun
    readStep := nofun
    errInfo := by cases k <;> simp [errorInfo, errorStatus]
    errCmd := by cases k <;> simp [errorCmd, errorStatus]
    errCmdByte := command }

theorem regsInv_done {r : Regs} (may : MayEnd r) : RegsInv (doneRegs r) :=
  { may with
    idle := fun _ => by simp
    running := nofun
    addressed := fun h => may.addressed (h.resolve_left (by simp))
    initStep := nofun
    resetStep := nofun
    readStep := nofun
    errInfo := by simp
    errCmd := by simp
    errCmdByte := nofun }

/-- INIT has the address and no valid sample, which a `READY` block alone has: so it may end in `FAILED`. -/
theorem mayEnd_markFailed {r : Regs} (inv : RegsInv r) (busy : r.busy = true) (mode : r.mode ≠ .ready) :
    MayEnd (markFailed r) :=
  { inv with
    ready := nofun
    noCal := fun _ => inv.noCal mode
    addressed := fun _ => inv.addressed (.inl busy)
    sample := fun h => absurd (inv.sample h).2 mode }

/-- The check's record changes nothing that `FAILED` needs. -/
theorem mayEnd_reject {r : Regs} (inv : RegsInv r) (busy : r.busy = true) (mode : r.mode ≠ .ready) (w : PromWords) :
    MayEnd (markFailed (recordCheck w r)) :=
  { mayEnd_markFailed inv busy mode with
    ready := nofun
    acc := rfl }

/-- The accepting step: the calibration is that of the words that passed the checksum. -/
theorem mayEnd_accept {r : Regs} (inv : RegsInv r) (busy : r.busy = true) {w : PromWords} (words : r.w = w.map some)
    (nibbles : crc4 w = storedNibble w) : MayEnd (acceptCalibration w (recordCheck w r)) :=
  { inv with
    ready := fun _ => ⟨w, by simp [words], nibbles, rfl, rfl, rfl⟩
    noCal := nofun
    addressed := fun _ => inv.addressed (.inl busy)
    sample := fun h => ⟨(inv.sample h).1, rfl⟩
    acc := rfl }

theorem mayEnd_putSample {r : Regs} (inv : RegsInv r) (mode : r.mode = .ready) (p : Params) (v : Compensated) :
    MayEnd (putSample p v r) :=
  { mayEnd_of_regsInv inv with sample := fun _ => ⟨by simp, mode⟩ }

/-! ## The sequencer's steps -/

/-- A step that writes a command without a response is RESET step 0 or READ_SAMPLE step 0 or 3. -/
theorem currentAction_write {p : Params} {r : Regs} {c : Byte} (action : currentAction p r = .ok (.bus c))
    (length : responseLength c = 0) :
    (r.op = .reset ∧ r.upc = 0) ∨ (r.op = .readSample ∧ (r.upc = 0 ∨ r.upc = 3)) := by
  rcases currentAction_eq_ok p r _ action with ⟨-, small, h⟩ | ⟨-, -, h⟩ | ⟨op, upc, -⟩ | ⟨-, -, h⟩ |
    ⟨_, _, op, -, -, ⟨upc, -⟩ | ⟨-, h⟩ | ⟨upc, -⟩ | ⟨-, h⟩⟩ | ⟨-, -, h⟩ | ⟨-, -, h⟩
  · injection h with h
    rw [h, (promCommand_decodes ⟨_, small⟩).2] at length
    exact absurd length (by decide)
  · cases h
  · exact .inl ⟨op, upc⟩
  · cases h
  · exact .inr ⟨op, .inl upc⟩
  · cases h
  · exact .inr ⟨op, .inr upc⟩
  · cases h
  · injection h with h
    exact absurd (h ▸ length) (by decide)
  · cases h

theorem stepDone_write {p : Params} {r : Regs} {c : Byte} (action : currentAction p r = .ok (.bus c))
    (length : responseLength c = 0) : StepDone r := by
  rcases currentAction_write action length with ⟨op, upc⟩ | ⟨op, upc | upc⟩ <;>
    constructor <;> simp [op, upc]

theorem stepDone_adcRead {p : Params} {r : Regs} (action : currentAction p r = .ok (.bus adcReadCommand)) (v : S32) :
    StepDone (putRaw v r) := by
  obtain ⟨op, upc | upc⟩ := currentAction_adcRead p r action
  · rw [putRaw_pressure v r upc]
    constructor <;> simp [op, upc]
  · rw [putRaw_temperature v r (by simp [upc])]
    constructor <;> simp [op, upc]

theorem stepDone_promRead {p : Params} {r : Regs} {k : Fin 8}
    (action : currentAction p r = .ok (.bus (promCommand k))) (v : U16) : StepDone (putWord k v r) := by
  obtain ⟨op, upc⟩ := currentAction_promRead p r k action
  constructor
  case init =>
    simp only [putWord_op, putWord_upc, putWord_w, upc]
    exact fun _ => ⟨k.isLt, fun j same => by simp [same]⟩
  all_goals simp [op]

/-- A delay that does not end RESET is READ_SAMPLE step 1 or 4. -/
theorem stepDone_delay {p : Params} {r : Regs} {ms : Byte} (action : currentAction p r = .ok (.delay ms))
    (other : r.op ≠ .reset) : StepDone r := by
  obtain ⟨op, -⟩ | ⟨op, upc | upc, -⟩ := currentAction_delay p r ms action
  · exact absurd op other
  all_goals constructor <;> simp [op, upc]

theorem regsInv_writeCommand {s : State} {c a : Byte} (inv : RegsInv s.regs) (busy : s.regs.busy = true)
    (action : currentAction s.params s.regs = .ok (.bus c)) (command : ∃ i, decodeBus c = .ok i)
    (length : responseLength c = 0) : RegsInv (writeCommand c a s).regs := by
  cases answer : nextAnswer s with
  | ok b0 b1 b2 =>
    rw [writeCommand_ok c a s b0 b1 b2 answer]
    simpa using regsInv_advance inv busy (stepDone_write action length)
  | err e =>
    rw [writeCommand_err c a s e answer]
    have names : namesCommand (.transport e c) := by simpa [namesCommand, errorCmd] using command
    simpa using regsInv_raise (mayEnd_of_regsInv inv) names

theorem regsInv_adcRead {s : State} {a : Byte} (inv : RegsInv s.regs) (busy : s.regs.busy = true)
    (action : currentAction s.params s.regs = .ok (.bus adcReadCommand)) : RegsInv (adcRead a s).regs := by
  cases answer : nextAnswer s with
  | ok b0 b1 b2 =>
    rw [adcRead_ok a s b0 b1 b2 answer]
    simpa using regsInv_advance (regsInv_putRaw inv (rawWf_rawValue b0 b1 b2)) (by simpa using busy)
      (stepDone_adcRead action _)
  | err e =>
    rw [adcRead_err a s e answer]
    have names : namesCommand (.transport e adcReadCommand) := by
      rintro _ ⟨⟩
      exact ⟨.cmdAdcRead, by decide⟩
    simpa using regsInv_raise (mayEnd_of_regsInv inv) names

theorem regsInv_promRead {s : State} {a : Byte} {k : Fin 8} (inv : RegsInv s.regs) (busy : s.regs.busy = true)
    (action : currentAction s.params s.regs = .ok (.bus (promCommand k))) : RegsInv (promRead k a s).regs := by
  have mode : s.regs.mode ≠ .ready := by
    simp [(inv.initStep (currentAction_promRead _ _ k action).1).1]
  cases answer : nextAnswer s with
  | ok b0 b1 b2 =>
    rw [promRead_ok k a s b0 b1 b2 answer]
    simpa using regsInv_advance (regsInv_putWord inv mode k (promWord b0 b1)) busy (stepDone_promRead action _)
  | err e =>
    rw [promRead_err k a s e answer]
    have names : namesCommand (.transport e (promCommand k)) := by
      rintro _ ⟨⟩
      exact ⟨_, (promCommand_decodes k).1⟩
    simpa using regsInv_raise (mayEnd_markFailed inv busy mode) names

theorem regsInv_delayStep {s : State} {ms : Byte} (inv : RegsInv s.regs) (busy : s.regs.busy = true)
    (action : currentAction s.params s.regs = .ok (.delay ms)) : RegsInv (delayStep ms s).regs := by
  by_cases reset : s.regs.op = .reset
  · rw [delayStep_reset ms s reset]
    exact regsInv_done (mayEnd_of_regsInv inv)
  · rw [delayStep_other ms s reset]
    exact regsInv_advance inv busy (stepDone_delay action reset)

/-! ## The moves of the block and the machine's step -/

theorem regsInv_reset : RegsInv Regs.reset := by
  constructor <;> simp [Regs.reset]

theorem coreMove_regsInv {s t : State} (inv : RegsInv s.regs) (move : CoreMove s t) : RegsInv t.regs := by
  cases move with
  | rest | hostRead => exact inv
  | init a0 => exact regsInv_startInit inv a0
  | reset _ _ ready => exact regsInv_startReset inv ready
  | readSample _ _ _ ready level => exact regsInv_startReadSample inv ready level
  | notReady | illegal => exact regsInv_raise (mayEnd_of_regsInv inv) nofun
  | write _ _ busy action command length => exact regsInv_writeCommand inv busy action command length
  | adcRead _ busy action => exact regsInv_adcRead inv busy action
  | promRead _ _ busy action => exact regsInv_promRead inv busy action
  | delay _ busy action => exact regsInv_delayStep inv busy action
  | accept _ busy _ words nibbles => exact regsInv_done (mayEnd_accept inv busy words nibbles)
  | reject w busy action =>
    obtain ⟨uninit, -⟩ := inv.initStep (currentAction_crcCheck _ _ action).1
    exact regsInv_raise (mayEnd_reject inv busy (by simp [uninit]) w) nofun
  | compensate _ _ _ _ action =>
    obtain ⟨ready, -⟩ := inv.readStep (currentAction_compensate _ _ action).1
    exact regsInv_done (mayEnd_putSample inv ready _ _)

/-- Settles O49: a step is the block reset or a move of the block, and each update of the registers keeps the clauses of
the invariant. -/
theorem stepKeepsInvariant : Obligations.StepKeepsInvariant := by
  intro s t inv h
  rcases (step_eq_next s t).1 h with ⟨-, rfl⟩ | ⟨-, move⟩
  · exact regsInv_reset
  · exact coreMove_regsInv (s := sampled s) inv move

end Sys2Proof.Proofs
end

section
/-! No fault of the block's own (10_state.md R25): in a state of the invariant the sequencer's step has an action, and
every register the action reads holds a value. -/

namespace Sys2Proof.Proofs

open Sys2Proof Sys2Proof.Machine Sys2Proof.Laws

/-! ## The sequencer's action in a state of the invariant -/

/-- A legal latched index is found in the ROM. -/
theorem osrLookup_of_legal {o : Option U3} (latched : o ≠ none) (level : ∀ i, o = some i → osrIndexWf i = true) :
    ∃ e, osrLookup o = .ok e := by
  obtain ⟨i, rfl⟩ := Option.ne_none_iff_exists'.1 latched
  obtain ⟨e, entry, -⟩ := osrEntry_of_wf i (level i rfl)
  exact ⟨e, (osrLookup_eq_ok _ _).2 ⟨i, rfl, entry⟩⟩

/-- A busy block is at a row of R89's lists. -/
theorem currentAction_of_regsInv {r : Regs} (inv : RegsInv r) (busy : r.busy = true) (p : Params) :
    ∃ act, currentAction p r = .ok act := by
  cases op : r.op with
  | none => exact absurd op (inv.running busy)
  | init =>
    obtain ⟨-, last, -⟩ := inv.initStep op
    interval_cases upc : r.upc.toNat <;> simp [currentAction, op, upc]
  | reset =>
    obtain ⟨-, last⟩ := inv.resetStep op
    interval_cases upc : r.upc.toNat <;> simp [currentAction, op, upc]
  | readSample =>
    obtain ⟨-, last, latched, -⟩ := inv.readStep op
    obtain ⟨e, found⟩ := osrLookup_of_legal latched inv.index
    interval_cases upc : r.upc.toNat <;> simp [currentAction, op, upc, found, Except.map]

/-- The conversion commands of the ROM's entries are sensor commands. -/
theorem conversionCommand_decodes {i : U3} {e : OsrEntry} (entry : osrEntry i = some e) :
    (∃ j, decodeBus (pressureCommand e) = .ok j) ∧ ∃ j, decodeBus (temperatureCommand e) = .ok j := by
  have rows : ∀ e ∈ osrRom, (decodeBus (pressureCommand e)).isOk = true ∧
      (decodeBus (temperatureCommand e)).isOk = true := by decide
  have value : ∀ x : Except Reject Instr, x.isOk = true → ∃ j, x = .ok j
    | .ok j, _ => ⟨j, rfl⟩
  obtain ⟨pressure, temperature⟩ := rows e (List.mem_of_getElem? entry)
  exact ⟨value _ pressure, value _ temperature⟩

/-- The byte of every row is one of the twenty sensor commands (R56). -/
theorem decodeBus_of_currentAction {p : Params} {r : Regs} {c : Byte} (action : currentAction p r = .ok (.bus c)) :
    ∃ i, decodeBus c = .ok i := by
  rcases currentAction_eq_ok p r _ action with ⟨-, small, h⟩ | ⟨-, -, h⟩ | ⟨-, -, h⟩ | ⟨-, -, h⟩ |
    ⟨_, _, -, -, entry, ⟨-, h⟩ | ⟨-, h⟩ | ⟨-, h⟩ | ⟨-, h⟩⟩ | ⟨-, -, h⟩ | ⟨-, -, h⟩ <;> cases h
  · exact ⟨_, (promCommand_decodes ⟨_, small⟩).1⟩
  · exact ⟨.cmdReset, by decide⟩
  · exact (conversionCommand_decodes entry).1
  · exact (conversionCommand_decodes entry).2
  · exact ⟨.cmdAdcRead, by decide⟩

/-! ## The registers the action reads -/

/-- A loader buffer with a value in every word is the image of eight words. -/
theorem promWords_of_valued {v : Vector (Option U16) 8} (valued : ∀ k : Fin 8, v[k] ≠ none) :
    ∃ w : PromWords, v = w.map some := by
  choose word holds using fun k => Option.ne_none_iff_exists'.1 (valued k)
  refine ⟨Vector.ofFn word, Vector.ext fun k small => ?_⟩
  simpa using holds ⟨k, small⟩

theorem coreMove_of_busy_regsInv {s : State} (inv : RegsInv s.regs) (busy : s.regs.busy = true) :
    ∃ t, CoreMove s t := by
  obtain ⟨act, action⟩ := currentAction_of_regsInv inv busy s.params
  cases act with
  | bus c =>
    obtain ⟨i, command⟩ := decodeBus_of_currentAction action
    obtain ⟨a, address⟩ := Option.ne_none_iff_exists'.1 (inv.addressed (.inl busy))
    rcases exec_sensorCommand c i command s with ⟨length, -⟩ | ⟨rfl, -⟩ | ⟨k, rfl, -⟩
    · exact ⟨_, .write c a busy action ⟨i, command⟩ length address⟩
    · exact ⟨_, .adcRead a busy action address⟩
    · exact ⟨_, .promRead k a busy action address⟩
  | delay ms => exact ⟨_, .delay ms busy action⟩
  | crcCheck =>
    obtain ⟨op, upc⟩ := currentAction_crcCheck _ _ action
    obtain ⟨-, -, read⟩ := inv.initStep op
    obtain ⟨w, words⟩ := promWords_of_valued fun k => read k (by simp [upc])
    by_cases nibbles : crc4 w = storedNibble w
    · exact ⟨_, .accept w busy action words nibbles⟩
    · exact ⟨_, .reject w busy action words nibbles⟩
  | compensate =>
    obtain ⟨op, upc⟩ := currentAction_compensate _ _ action
    obtain ⟨mode, -, -, -, pressure, temperature⟩ := inv.readStep op
    obtain ⟨d1, raw1⟩ := Option.ne_none_iff_exists'.1 (pressure (by simp [upc]))
    obtain ⟨d2, raw2⟩ := Option.ne_none_iff_exists'.1 (temperature (by simp [upc]))
    obtain ⟨w, -, -, cal, -⟩ := inv.ready mode
    exact ⟨_, .compensate d1 d2 _ busy action raw1 raw2 cal⟩

/-! ## The host's words -/

/-- An idle block answers every word the host issues. -/
theorem coreMove_of_issue {s : State} {b : Byte} {later : List HostMove} (idle : s.regs.busy = false)
    (moves : s.hostMoves = .issue b :: later) : ∃ t, CoreMove s t := by
  cases word : decodeHost b with
  | error r => exact ⟨_, .illegal b later idle ⟨r, word⟩ moves⟩
  | ok i =>
    rcases exec_hostCommand b i word s with ⟨a0, rfl, -⟩ | ⟨rfl, -⟩ | ⟨n, level, rfl, -⟩
    · exact ⟨_, .init a0 later idle moves⟩
    · by_cases mode : s.regs.mode = .ready
      · exact ⟨_, .reset later idle mode moves⟩
      · exact ⟨_, .notReady _ later idle mode (.inl rfl) moves⟩
    · by_cases mode : s.regs.mode = .ready
      · exact ⟨_, .readSample n later idle mode level moves⟩
      · exact ⟨_, .notReady _ later idle mode (.inr ⟨n, level, rfl⟩) moves⟩

theorem coreMove_of_noHostRead {s : State} (inv : RegsInv s.regs) (noRead : noHostRead s) : ∃ t, CoreMove s t := by
  cases busy : s.regs.busy with
  | true => exact coreMove_of_busy_regsInv inv busy
  | false =>
    cases moves : s.hostMoves with
    | nil => exact ⟨s, .rest busy moves⟩
    | cons m later =>
      obtain ⟨b, rfl⟩ := noRead.resolve_left (by simp [busy]) m (by rw [moves, List.head?_cons])
      exact coreMove_of_issue busy moves

/-- Settles O50: the reset input resets the block; otherwise the block has a move, and a move is a step. -/
theorem onlyHostReadsFault : Obligations.OnlyHostReadsFault := by
  intro s inv noRead
  by_cases asserted : s.resetLine.head? = some true
  · exact ⟨_, step_of_reset asserted⟩
  · obtain ⟨t, move⟩ := coreMove_of_noHostRead (s := sampled s) inv noRead
    exact ⟨t, (step_eq_next s t).2 (.inr ⟨asserted, move⟩)⟩

end Sys2Proof.Proofs
end

section
/-! The host's side of the block (10_state.md R24 to R26): what a read of a register gives, and that a busy block
neither reads nor changes the host's moves. -/

namespace Sys2Proof.Proofs

open Sys2Proof Sys2Proof.Machine Sys2Proof.Laws

/-- The state with other moves of the host to come. -/
def withMoves (moves : List HostMove) (s : State) : State := { s with hostMoves := moves }

/-! ## What a read gives -/

/-- A read gives the content, and the fault `noValue` where there is none. -/
def ReadsAs (read : Except Fault HostValue) (content : Option HostValue) : Prop :=
  (∀ v, content = some v → read = .ok v) ∧ (content = none → ∃ reg, read = .error (.noValue reg))

theorem readsAs_ok (v : HostValue) : ReadsAs (.ok v) (some v) :=
  ⟨fun _ h => congrArg Except.ok (Option.some.inj h), nofun⟩

theorem readsAs_noValue (reg : Reg) : ReadsAs (.error (.noValue reg)) none := ⟨nofun, fun _ => ⟨reg, rfl⟩⟩

theorem readsAs_valued {α : Type} (reg : Reg) (x : Option α) (f : α → HostValue) :
    ReadsAs (valued reg x f) (x.map f) := by
  cases x with
  | none => exact readsAs_noValue reg
  | some x => exact readsAs_ok (f x)

theorem readsAs_valuedWhen {α : Type} {c : Bool} {condition : Prop} [Decidable condition] (agree : c = true ↔ condition)
    (reg : Reg) (x : Option α) (f : α → HostValue) :
    ReadsAs (valuedWhen c reg x f) (if condition then x.map f else none) := by
  cases c with
  | true =>
    rw [if_pos (agree.1 rfl)]
    exact readsAs_valued reg x f
  | false =>
    rw [if_neg fun h => Bool.false_ne_true (agree.2 h)]
    exact readsAs_noValue reg

theorem readsAs_coefficient (f : Calibration → U16) (r : Regs) :
    ReadsAs (readCoefficient f r) (if r.mode = .ready then r.cal.map fun c => .word (f c) else none) :=
  readsAs_valuedWhen beq_iff_eq _ _ _

/-- The answer of a host read, once its register's content is known. -/
theorem hostRead_of_readsAs {h : HostReg} {s : State} {content : Option HostValue}
    (reads : ReadsAs (readReg h s.regs) content) :
    (∀ v, content = some v → hostRead h s = .next (tellHost (.value h v) s)) ∧
    (content = none → ∃ reg, hostRead h s = .fault (.noValue reg)) := by
  refine ⟨fun v holds => (hostRead_eq_next h s _).2 ⟨v, reads.1 v holds, rfl⟩, fun empty => ?_⟩
  obtain ⟨reg, fault⟩ := reads.2 empty
  exact ⟨reg, by rw [hostRead, fault]⟩

/-! ## The offsets of `HOST_REG_MAP` -/

/-- The first entry for an offset counts. -/
theorem registerAt_of_first {p : Params} {offset : Nat} {h : HostReg} {first rest : List (Nat × HostReg)}
    (entries : p.hostRegMap = first ++ (offset, h) :: rest) (before : ∀ entry ∈ first, entry.1 ≠ offset) :
    registerAt p offset = some h := by
  have none : first.find? (fun entry => entry.1 == offset) = none := by simpa using before
  simp [registerAt, entries, List.find?_append, none]

theorem registerAt_of_unassigned {p : Params} {offset : Nat}
    (unassigned : ∀ entry ∈ p.hostRegMap, entry.1 ≠ offset) : registerAt p offset = none := by
  simpa [registerAt] using unassigned

theorem hostReadAt_of_entry {s : State} {offset : Nat} {h : HostReg} (entry : registerAt s.params offset = some h) :
    hostReadAt offset s = hostRead h s := by
  simp [hostReadAt, entry]

theorem hostReadAt_of_unassigned {s : State} {offset : Nat} (none : registerAt s.params offset = none) :
    hostReadAt offset s = .fault (.noHostRegister offset) := by
  simp [hostReadAt, none]

/-- Settles O9: the step of an idle block is the host's read of the named register, and each register's content is what
R26's table gives the host. -/
theorem hostReads : Obligations.HostReads := by
  refine ⟨?_, ?_, ?_⟩
  · intro s offset h first rest later released idle moves entries before
    calc step s
      _ = coreStep (sampled s) := step_of_not_reset released
      _ = hostReadAt offset (withMoves later (sampled s)) := coreStep_readAt (s := sampled s) idle moves
      _ = hostRead h (withMoves later (sampled s)) := hostReadAt_of_entry (registerAt_of_first entries before)
      _ = coreStep (sampled (withMoves (.read h :: later) s)) :=
        (coreStep_read (s := sampled (withMoves (.read h :: later) s)) idle rfl).symm
      _ = step (withMoves (.read h :: later) s) :=
        (step_of_not_reset (s := withMoves (.read h :: later) s) released).symm
  · intro s offset later released idle moves unassigned
    calc step s
      _ = coreStep (sampled s) := step_of_not_reset released
      _ = hostReadAt offset (withMoves later (sampled s)) := coreStep_readAt (s := sampled s) idle moves
      _ = .fault (.noHostRegister offset) := hostReadAt_of_unassigned (registerAt_of_unassigned unassigned)
  · intro s h later released idle moves r coefficient output value
    have reads : ReadsAs (readReg h s.regs) value := by
      cases h with
      | mode => cases mode : s.regs.mode <;> simpa [value, r, readReg, mode, modeCode] using readsAs_ok _
      | busy => simpa [value, readReg, idle, bitOf] using readsAs_ok _
      | devAddr | crcComputed | crcStored => exact readsAs_valued _ _ _
      | c1 | c2 | c3 | c4 | c5 | c6 => exact readsAs_coefficient _ _
      | pOut | tOut | pMbar | tC => exact readsAs_valuedWhen Iff.rfl _ _ _
      | sampleValid | status => exact readsAs_ok _
      | errInfo | errCmd => exact readsAs_valuedWhen beq_iff_eq _ _ _
    rw [step_of_not_reset released, coreStep_read (s := sampled s) idle moves]
    exact hostRead_of_readsAs reads

/-! ## The moves of a busy block -/

/-- The function neither reads nor changes the host's moves. -/
def IgnoresMoves (f : State → State) : Prop :=
  ∀ (moves : List HostMove) (s : State), f (withMoves moves s) = withMoves moves (f s)

theorem ignoresMoves_hostMoves {f : State → State} (ignores : IgnoresMoves f) (s : State) :
    (f s).hostMoves = s.hostMoves :=
  calc (f s).hostMoves = (withMoves s.hostMoves (f s)).hostMoves := congrArg State.hostMoves (ignores s.hostMoves s)
    _ = s.hostMoves := rfl

theorem ignoresMoves_dropAnswer : IgnoresMoves dropAnswer := by
  intro moves s
  cases answers : s.answers with
  | nil => rw [dropAnswer_nil s answers, dropAnswer_nil (withMoves moves s) answers]; rfl
  | cons a rest => rw [dropAnswer_cons s a rest answers, dropAnswer_cons (withMoves moves s) a rest answers]; rfl

theorem ignoresMoves_writeCommand (c a : Byte) : IgnoresMoves (writeCommand c a) := by
  intro moves s
  have drop := ignoresMoves_dropAnswer moves s
  cases answer : nextAnswer s with
  | ok b0 b1 b2 =>
    rw [writeCommand_ok c a s _ _ _ answer, writeCommand_ok c a (withMoves moves s) _ _ _ answer, drop]; rfl
  | err e => rw [writeCommand_err c a s e answer, writeCommand_err c a (withMoves moves s) e answer, drop]; rfl

theorem ignoresMoves_adcRead (a : Byte) : IgnoresMoves (adcRead a) := by
  intro moves s
  have drop := ignoresMoves_dropAnswer moves s
  cases answer : nextAnswer s with
  | ok b0 b1 b2 => rw [adcRead_ok a s _ _ _ answer, adcRead_ok a (withMoves moves s) _ _ _ answer, drop]; rfl
  | err e => rw [adcRead_err a s e answer, adcRead_err a (withMoves moves s) e answer, drop]; rfl

theorem ignoresMoves_promRead (k : Fin 8) (a : Byte) : IgnoresMoves (promRead k a) := by
  intro moves s
  have drop := ignoresMoves_dropAnswer moves s
  cases answer : nextAnswer s with
  | ok b0 b1 b2 => rw [promRead_ok k a s _ _ _ answer, promRead_ok k a (withMoves moves s) _ _ _ answer, drop]; rfl
  | err e => rw [promRead_err k a s e answer, promRead_err k a (withMoves moves s) e answer, drop]; rfl

theorem ignoresMoves_delayStep (ms : Byte) : IgnoresMoves (delayStep ms) := by
  intro moves s
  by_cases reset : s.regs.op = .reset
  · rw [delayStep_reset ms s reset, delayStep_reset ms (withMoves moves s) reset]; rfl
  · rw [delayStep_other ms s reset, delayStep_other ms (withMoves moves s) reset]; rfl

/-- A move of a busy block is a step of the sequencer, whatever the host's moves. -/
theorem coreMove_of_busy_withMoves {s t : State} (busy : s.regs.busy = true) (move : CoreMove s t) :
    t.hostMoves = s.hostMoves ∧ ∀ moves, CoreMove (withMoves moves s) (withMoves moves t) := by
  cases move with
  | rest idle | init _ _ idle | reset _ idle | readSample _ _ idle | notReady _ _ idle | illegal _ _ idle
  | hostRead _ _ _ _ idle => exact absurd (busy.symm.trans idle) (by decide)
  | write c a busy action command length address =>
    have ignores := ignoresMoves_writeCommand c a
    exact ⟨ignoresMoves_hostMoves ignores s, fun moves =>
      ignores moves s ▸ .write c a busy action command length address⟩
  | adcRead a busy action address =>
    have ignores := ignoresMoves_adcRead a
    exact ⟨ignoresMoves_hostMoves ignores s, fun moves => ignores moves s ▸ .adcRead a busy action address⟩
  | promRead k a busy action address =>
    have ignores := ignoresMoves_promRead k a
    exact ⟨ignoresMoves_hostMoves ignores s, fun moves => ignores moves s ▸ .promRead k a busy action address⟩
  | delay ms busy action =>
    have ignores := ignoresMoves_delayStep ms
    exact ⟨ignoresMoves_hostMoves ignores s, fun moves => ignores moves s ▸ .delay ms busy action⟩
  | accept w busy action words nibbles => exact ⟨rfl, fun _ => .accept w busy action words nibbles⟩
  | reject w busy action words nibbles => exact ⟨rfl, fun _ => .reject w busy action words nibbles⟩
  | compensate d1 d2 c busy action raw1 raw2 cal =>
    exact ⟨rfl, fun _ => .compensate d1 d2 c busy action raw1 raw2 cal⟩

theorem acceptInit_busy {s : State} (busy : s.regs.busy = true) (a0 : Bool) :
    acceptInit a0 s = .refused .hostHasNoMove := if_pos busy

theorem acceptWhenReady_busy {s : State} (busy : s.regs.busy = true) (start : Regs → Regs) :
    acceptWhenReady start s = .refused .hostHasNoMove := if_pos busy

/-- Settles O16: a host word's meaning is one of the two acceptances, which a busy block refuses; a step of a busy block
is the block reset or a step of the sequencer. -/
theorem busyBlocksTheHost : Obligations.BusyBlocksTheHost := by
  constructor
  · intro i hostOperation s busy
    have words : ∀ i ∈ [Instr.init77, .init76, .reset, .readSampleOsr256, .readSampleOsr512, .readSampleOsr1024,
        .readSampleOsr2048, .readSampleOsr4096], decodeHost (encode i) = .ok i := by decide
    rcases exec_hostCommand (encode i) i (words i hostOperation) s with ⟨a0, -, h⟩ | ⟨-, h⟩ | ⟨n, -, -, h⟩
    · rw [h, acceptInit_busy busy]
    · rw [h, acceptWhenReady_busy busy]
    · rw [h, acceptWhenReady_busy busy]
  · intro s t moves busy h
    rcases (step_eq_next s t).1 h with ⟨asserted, rfl⟩ | ⟨released, move⟩
    · exact ⟨rfl, step_of_reset (s := withMoves moves s) asserted⟩
    · obtain ⟨same, other⟩ := coreMove_of_busy_withMoves (s := sampled s) busy move
      exact ⟨same, (step_eq_next (withMoves moves s) _).2 (.inr ⟨released, other moves⟩)⟩

end Sys2Proof.Proofs
end

section
/-! Where `CAL` changes (10_state.md R15). -/

namespace Sys2Proof.Proofs

open Sys2Proof Sys2Proof.Machine Sys2Proof.Laws

@[simp] theorem writeCommand_cal (c a : Byte) (s : State) : (writeCommand c a s).regs.cal = s.regs.cal := by
  cases h : nextAnswer s with
  | ok b0 b1 b2 => simp [writeCommand_ok c a s b0 b1 b2 h]
  | err e => simp [writeCommand_err c a s e h]

@[simp] theorem adcRead_cal (a : Byte) (s : State) : (adcRead a s).regs.cal = s.regs.cal := by
  cases h : nextAnswer s with
  | ok b0 b1 b2 => simp [adcRead_ok a s b0 b1 b2 h]
  | err e => simp [adcRead_err a s e h]

@[simp] theorem promRead_cal (k : Fin 8) (a : Byte) (s : State) : (promRead k a s).regs.cal = s.regs.cal := by
  cases h : nextAnswer s with
  | ok b0 b1 b2 => simp [promRead_ok k a s b0 b1 b2 h]
  | err e => simp [promRead_err k a s e h]

@[simp] theorem delayStep_cal (ms : Byte) (s : State) : (delayStep ms s).regs.cal = s.regs.cal := by
  by_cases h : s.regs.op = .reset
  · simp [delayStep_reset ms s h]
  · simp [delayStep_other ms s h]

/-- The two words of INIT are the bytes 0x10 and 0x11. -/
theorem acceptsInit_of_moves {s : State} {a0 : Bool} {later : List HostMove} (idle : s.regs.busy = false)
    (moves : s.hostMoves = .issue (joinHost ⟨1, 0, BitVec.ofBool a0⟩) :: later) : acceptsInit s := by
  refine ⟨idle, ?_⟩
  rw [moves]
  cases a0 with
  | false => exact .inl rfl
  | true => exact .inr rfl

/-- A move of the block keeps `CAL`, or accepts an INIT, or is INIT's accepting step. -/
theorem coreMove_cal {s t : State} (move : CoreMove s t) :
    t.regs.cal = s.regs.cal ∨ (acceptsInit s ∧ t.regs.cal = none) ∨
    (s.regs.busy = true ∧ s.regs.op = .init ∧ s.regs.upc = 8 ∧ t.regs.mode = .ready ∧
      ∃ w : PromWords, s.regs.w = w.map some ∧ crc4 w = storedNibble w ∧ t.regs.cal = some (calibrationOf w)) := by
  cases move with
  | init a0 later idle moves => exact .inr (.inl ⟨acceptsInit_of_moves idle moves, rfl⟩)
  | accept w busy action words nibbles =>
    obtain ⟨op, upc⟩ := currentAction_crcCheck _ _ action
    exact .inr (.inr ⟨busy, op, upc, rfl, w, words, nibbles, rfl⟩)
  | rest | reset | readSample | notReady | illegal | hostRead | reject | compensate => exact .inl rfl
  | write c a => exact .inl (writeCommand_cal c a s)
  | adcRead a => exact .inl (adcRead_cal a s)
  | promRead k a => exact .inl (promRead_cal k a s)
  | delay ms => exact .inl (delayStep_cal ms s)

/-- Settles O52: the block reset clears `CAL`, and the moves of the block change it in two cases only. -/
theorem calibrationImmutable : Obligations.CalibrationImmutable := by
  intro s t h
  rcases (step_eq_next s t).1 h with ⟨asserted, rfl⟩ | ⟨-, move⟩
  · exact .inr (.inl ⟨asserted, rfl⟩)
  · exact (coreMove_cal move).imp_right .inr

end Sys2Proof.Proofs
end

section
/-! The registers no step reads (10_state.md R20, R21): the outcome record, the checksum record and the sample. A step
from a state with other contents there, of any kind, leaves the same state but for them. -/

namespace Sys2Proof.Proofs

open Sys2Proof Sys2Proof.Machine Sys2Proof.Laws

/-! ## States that agree but for the records -/

/-- The state with the records of other registers. -/
def withRecords (r : Regs) (s : State) : State :=
  onRegs (fun own => { own with status := r.status, errInfo := r.errInfo, errCmd := r.errCmd,
                                crcComputed := r.crcComputed, crcStored := r.crcStored, datapath := r.datapath,
                                out := r.out, sampleValid := r.sampleValid }) s

/-- States that agree but for the records differ by a change of the records. -/
theorem hideRecords_eq_iff (s s' : State) : hideRecords s = hideRecords s' ↔ ∃ r, s' = withRecords r s := by
  constructor
  · intro agree
    refine ⟨s'.regs, ?_⟩
    obtain ⟨regs, params, line, moves, log, answers, draws, trace⟩ := s
    obtain ⟨regs', params', line', moves', log', answers', draws', trace'⟩ := s'
    simp_all [hideRecords, withRecords, onRegs]
  · rintro ⟨r, rfl⟩
    rfl

/-- What the function leaves, the records aside, does not depend on the records. -/
def IgnoresRecords (f : State → State) : Prop :=
  ∀ (r : Regs) (s : State), hideRecords (f (withRecords r s)) = hideRecords (f s)

theorem dropAnswer_withRecords (r : Regs) (s : State) :
    dropAnswer (withRecords r s) = withRecords r (dropAnswer s) := by
  cases answers : s.answers with
  | nil => rw [dropAnswer_nil s answers, dropAnswer_nil (withRecords r s) answers]; rfl
  | cons a rest => rw [dropAnswer_cons s a rest answers, dropAnswer_cons (withRecords r s) a rest answers]; rfl

theorem putRaw_withRecords (v : S32) (r : Regs) (s : State) :
    onRegs (putRaw v) (withRecords r s) = withRecords r (onRegs (putRaw v) s) := by
  by_cases pressure : s.regs.upc = 2
  · simp only [onRegs, putRaw_pressure v s.regs pressure, putRaw_pressure v (withRecords r s).regs pressure]; rfl
  · simp only [onRegs, putRaw_temperature v s.regs pressure, putRaw_temperature v (withRecords r s).regs pressure]; rfl

/-! ## The sequencer's steps -/

theorem ignoresRecords_writeCommand (c a : Byte) : IgnoresRecords (writeCommand c a) := by
  intro r s
  have drop := dropAnswer_withRecords r s
  cases answer : nextAnswer s with
  | ok b0 b1 b2 =>
    rw [writeCommand_ok c a s _ _ _ answer, writeCommand_ok c a (withRecords r s) _ _ _ answer, drop]; rfl
  | err e => rw [writeCommand_err c a s e answer, writeCommand_err c a (withRecords r s) e answer, drop]; rfl

theorem ignoresRecords_adcRead (a : Byte) : IgnoresRecords (adcRead a) := by
  intro r s
  have drop := dropAnswer_withRecords r s
  cases answer : nextAnswer s with
  | ok b0 b1 b2 =>
    rw [adcRead_ok a s _ _ _ answer, adcRead_ok a (withRecords r s) _ _ _ answer, drop]
    exact congrArg (fun t => hideRecords (onRegs advance t)) (putRaw_withRecords _ r (emit _ (dropAnswer s)))
  | err e => rw [adcRead_err a s e answer, adcRead_err a (withRecords r s) e answer, drop]; rfl

theorem ignoresRecords_promRead (k : Fin 8) (a : Byte) : IgnoresRecords (promRead k a) := by
  intro r s
  have drop := dropAnswer_withRecords r s
  cases answer : nextAnswer s with
  | ok b0 b1 b2 =>
    rw [promRead_ok k a s _ _ _ answer, promRead_ok k a (withRecords r s) _ _ _ answer, drop]; rfl
  | err e => rw [promRead_err k a s e answer, promRead_err k a (withRecords r s) e answer, drop]; rfl

theorem ignoresRecords_delayStep (ms : Byte) : IgnoresRecords (delayStep ms) := by
  intro r s
  by_cases reset : s.regs.op = .reset
  · rw [delayStep_reset ms s reset, delayStep_reset ms (withRecords r s) reset]; rfl
  · rw [delayStep_other ms s reset, delayStep_other ms (withRecords r s) reset]; rfl

/-! ## The moves of the block and the machine's step -/

/-- A host read is the only move with a condition on a record. -/
theorem coreMove_withRecords {s t : State} (noRead : noHostRead s) (move : CoreMove s t) (r : Regs) :
    ∃ t', CoreMove (withRecords r s) t' ∧ hideRecords t' = hideRecords t := by
  cases move with
  | rest idle moves => exact ⟨_, .rest idle moves, rfl⟩
  | init a0 later idle moves => exact ⟨_, .init a0 later idle moves, rfl⟩
  | reset later idle ready moves => exact ⟨_, .reset later idle ready moves, rfl⟩
  | readSample n later idle ready level moves => exact ⟨_, .readSample n later idle ready level moves, rfl⟩
  | notReady b later idle mode word moves => exact ⟨_, .notReady b later idle mode word moves, rfl⟩
  | illegal b later idle word moves => exact ⟨_, .illegal b later idle word moves, rfl⟩
  | hostRead m h v later idle names value moves =>
    obtain ⟨b, rfl⟩ := noRead.resolve_left (by simp [idle]) m (by rw [moves, List.head?_cons])
    rcases names with h | ⟨_, h, -⟩ <;> cases h
  | write c a busy action command length address =>
    exact ⟨_, .write c a busy action command length address, ignoresRecords_writeCommand c a r s⟩
  | adcRead a busy action address => exact ⟨_, .adcRead a busy action address, ignoresRecords_adcRead a r s⟩
  | promRead k a busy action address => exact ⟨_, .promRead k a busy action address, ignoresRecords_promRead k a r s⟩
  | delay ms busy action => exact ⟨_, .delay ms busy action, ignoresRecords_delayStep ms r s⟩
  | accept w busy action words nibbles => exact ⟨_, .accept w busy action words nibbles, rfl⟩
  | reject w busy action words nibbles => exact ⟨_, .reject w busy action words nibbles, rfl⟩
  | compensate d1 d2 c busy action raw1 raw2 cal =>
    exact ⟨_, .compensate d1 d2 c busy action raw1 raw2 cal, rfl⟩

/-- Settles O56: a state that agrees but for the records has the reset sample, or the move, of the other one. -/
theorem recordsNeverFeedBack : Obligations.RecordsNeverFeedBack := by
  intro s s' t agree noRead h
  obtain ⟨r, rfl⟩ := (hideRecords_eq_iff s s').1 agree
  rcases (step_eq_next s t).1 h with ⟨asserted, rfl⟩ | ⟨released, move⟩
  · exact ⟨_, step_of_reset (s := withRecords r s) asserted, rfl⟩
  · obtain ⟨t', move', same⟩ := coreMove_withRecords (s := sampled s) noRead move r
    exact ⟨t', (step_eq_next (withRecords r s) t').2 (.inr ⟨released, move'⟩), same⟩

end Sys2Proof.Proofs
end

section
/-! How response bytes become values (20_memory.md R30, R31): the high byte is the more significant one. -/

namespace Sys2Proof.Proofs

open Sys2Proof Sys2Proof.Machine

/-- A byte appended on the right is the low byte: what is on its left counts 256-fold. -/
theorem toNat_append_byte {n : Nat} (high : BitVec n) (low : Byte) :
    (high ++ low).toNat = high.toNat * 256 + low.toNat := by
  rw [BitVec.toNat_append, ← Nat.shiftLeft_add_eq_or_of_lt low.isLt, Nat.shiftLeft_eq]

theorem promWord_toNat (b0 b1 : Byte) : (promWord b0 b1).toNat = b0.toNat * 256 + b1.toNat :=
  toNat_append_byte b0 b1

theorem hiByte_promWord (b0 b1 : Byte) : hiByte (promWord b0 b1) = b0 :=
  BitVec.extractLsb'_append_eq_left

theorem loByte_promWord (b0 b1 : Byte) : loByte (promWord b0 b1) = b1 :=
  BitVec.extractLsb'_append_eq_right

theorem rawValue_toNat (b0 b1 b2 : Byte) :
    (rawValue b0 b1 b2).toNat = b0.toNat * 65536 + b1.toNat * 256 + b2.toNat := by
  rw [rawValue, BitVec.toNat_setWidth_of_le (by decide), toNat_append_byte, toNat_append_byte]
  omega

/-- The container of a legal raw conversion has nothing above its 24 bits (10_state.md R18). -/
theorem highByte_of_rawWf {v : S32} (legal : rawWf v = true) : v.extractLsb' 24 8 = 0 := by
  have bound : v.toNat < 2 ^ 24 := of_decide_eq_true legal
  apply BitVec.eq_of_toNat_eq
  rw [BitVec.extractLsb'_toNat, Nat.shiftRight_eq_div_pow, Nat.div_eq_of_lt bound]
  rfl

/-- Settles O4: the two bytes of a word are its halves; a raw value is the sum of its three bytes, and a legal one. -/
theorem responseByteOrder : Obligations.ResponseByteOrder := by
  refine ⟨fun b0 b1 => ⟨promWord_toNat b0 b1, hiByte_promWord b0 b1, loByte_promWord b0 b1⟩, fun b0 b1 b2 => ?_⟩
  have legal := rawWf_rawValue b0 b1 b2
  exact ⟨rawValue_toNat b0 b1 b2, Nat.le_of_lt_succ (of_decide_eq_true legal), highByte_of_rawWf legal⟩

end Sys2Proof.Proofs
end

section
/-! What the block asks of the transport (20_memory.md R28, R34, R38, R40): the draw of an answer, the event that each
body of the sequencer's steps appends to the trace, and that the event is one the block may make. -/

namespace Sys2Proof.Proofs

open Sys2Proof Sys2Proof.Machine Sys2Proof.Laws

/-- Settles O10: a draw takes the list's head, and beyond the list the free constant at the count of draws. -/
theorem transportDraw : Obligations.TransportDraw :=
  ⟨fun s a rest listed => ⟨nextAnswer_cons s a rest listed, dropAnswer_cons s a rest listed⟩,
   fun s used => ⟨nextAnswer_nil s used, dropAnswer_nil s used⟩⟩

/-! ## The event of each body -/

@[simp] theorem writeCommand_trace (c a : Byte) (s : State) :
    (writeCommand c a s).trace = s.trace ++ [.write a c (busResult 0 (nextAnswer s))] := by
  cases h : nextAnswer s with
  | ok b0 b1 b2 => simp [writeCommand_ok c a s b0 b1 b2 h, busResult]
  | err e => simp [writeCommand_err c a s e h, busResult]

@[simp] theorem adcRead_trace (a : Byte) (s : State) :
    (adcRead a s).trace = s.trace ++ [.writeRead a adcReadCommand 3 (busResult 3 (nextAnswer s))] := by
  cases h : nextAnswer s with
  | ok b0 b1 b2 => simp [adcRead_ok a s b0 b1 b2 h, busResult]
  | err e => simp [adcRead_err a s e h, busResult]

@[simp] theorem promRead_trace (k : Fin 8) (a : Byte) (s : State) :
    (promRead k a s).trace = s.trace ++ [.writeRead a (promCommand k) 2 (busResult 2 (nextAnswer s))] := by
  cases h : nextAnswer s with
  | ok b0 b1 b2 => simp [promRead_ok k a s b0 b1 b2 h, busResult]
  | err e => simp [promRead_err k a s e h, busResult]

@[simp] theorem delayStep_trace (ms : Byte) (s : State) : (delayStep ms s).trace = s.trace ++ [.delay ms] := by
  by_cases h : s.regs.op = .reset
  · simp [delayStep_reset ms s h]
  · simp [delayStep_other ms s h]

/-! ## The event is an allowed one -/

/-- A transaction that returns `Ok` gives the bytes it asked for; an answer holds three. -/
theorem busResult_length {n : Nat} (few : n ≤ 3) {answer : BusAnswer} {bytes : List Byte}
    (ok : busResult n answer = .ok bytes) : bytes.length = n := by
  cases answer with
  | ok b0 b1 b2 =>
    obtain rfl : [b0, b1, b2].take n = bytes := by simpa [busResult] using ok
    simpa using few
  | err e => simp [busResult] at ok

/-- A read of a sensor command's length, by the address it is sent to. -/
theorem eventAllowed_read {a c : Byte} {n : Nat} (command : ∃ i, decodeBus c = .ok i) (length : responseLength c = n)
    (nonempty : 0 < n) (few : n ≤ 3) (answer : BusAnswer) : EventAllowed a (.writeRead a c n (busResult n answer)) :=
  ⟨rfl, command, length.symm, nonempty, fun _ => busResult_length few⟩

theorem eventAllowed_adcRead (a : Byte) (answer : BusAnswer) :
    EventAllowed a (.writeRead a adcReadCommand 3 (busResult 3 answer)) :=
  eventAllowed_read ⟨.cmdAdcRead, by decide⟩ (by decide) (by decide) (by decide) answer

theorem eventAllowed_promRead (k : Fin 8) (a : Byte) (answer : BusAnswer) :
    EventAllowed a (.writeRead a (promCommand k) 2 (busResult 2 answer)) :=
  eventAllowed_read ⟨_, (promCommand_decodes k).1⟩ (promCommand_decodes k).2 (by decide) (by decide) answer

/-! ## The moves of the block and the machine's step -/

/-- The trace grows by one event of a busy block, allowed at its device address. -/
def MakesAllowedEvent (s t : State) : Prop :=
  ∃ ev, t.trace = s.trace ++ [ev] ∧ s.regs.busy = true ∧ ∀ a, s.regs.devAddr = some a → EventAllowed a ev

/-- An event allowed at the address that the move sends to is allowed at `DEV_ADDR`: they are the same. -/
theorem makesAllowedEvent_at {s t : State} {a : Byte} {ev : Event} (trace : t.trace = s.trace ++ [ev])
    (busy : s.regs.busy = true) (address : s.regs.devAddr = some a) (allowed : EventAllowed a ev) :
    MakesAllowedEvent s t := by
  refine ⟨ev, trace, busy, fun b sameAddress => ?_⟩
  obtain rfl : a = b := Option.some.inj (address.symm.trans sameAddress)
  exact allowed

/-- The moves that make an event are the three transactions and the delay. -/
theorem coreMove_trace {s t : State} (move : CoreMove s t) : t.trace = s.trace ∨ MakesAllowedEvent s t := by
  cases move with
  | rest | init | reset | readSample | notReady | illegal | hostRead | accept | reject | compensate => exact .inl rfl
  | write c a busy action command length address =>
    exact .inr (makesAllowedEvent_at (writeCommand_trace c a s) busy address ⟨rfl, command, length⟩)
  | adcRead a busy action address =>
    exact .inr (makesAllowedEvent_at (adcRead_trace a s) busy address (eventAllowed_adcRead a _))
  | promRead k a busy action address =>
    exact .inr (makesAllowedEvent_at (promRead_trace k a s) busy address (eventAllowed_promRead k a _))
  | delay ms busy => exact .inr ⟨_, delayStep_trace ms s, busy, fun _ _ => trivial⟩

/-- Settles O54: the block reset makes no event, and sampling the reset input leaves the trace and the registers. -/
theorem oneAllowedEventPerStep : Obligations.OneAllowedEventPerStep := by
  intro s t h
  rcases (step_eq_next s t).1 h with ⟨-, rfl⟩ | ⟨-, move⟩
  · exact .inl rfl
  · exact coreMove_trace (s := sampled s) move

end Sys2Proof.Proofs
end

section
/-! The two opcode maps (30_encoding.md R44 to R56): a byte and its fields determine each other, each decoder is the
inverse of the encoder on its own format, and the formats share no byte. From this follow the tables, and what the block
does with a byte that is in none of them. -/

namespace Sys2Proof.Proofs

open Sys2Proof Sys2Proof.Machine Sys2Proof.Laws

/-! ## Host command words -/

theorem joinHost_splitHost : ∀ b : Byte, joinHost (splitHost b) = b := by decide

theorem fieldsOf_of_readSampleAt {n : U3} {i : Instr} (level : readSampleAt n = .ok i) :
    fieldsOf i = .host ⟨3, n, 0⟩ := by
  have index : ∀ k : Nat, n.toNat = k → n = BitVec.ofNat 3 k := by
    rintro _ rfl
    simp
  unfold readSampleAt at level
  split at level <;> cases level <;> rw [index _ ‹_›] <;> rfl

/-- A decoded host word has the fields of its instruction: the decoder looks at nothing else of the byte. -/
theorem fieldsOf_of_decodeHost {b : Byte} {i : Instr} (word : decodeHost b = .ok i) :
    fieldsOf i = .host (splitHost b) := by
  have set : ∀ bit : BitVec 1, bit ≠ 0 → bit = 1 := by decide
  unfold decodeHost at word
  generalize splitHost b = f at word ⊢
  obtain ⟨op, arg, a0⟩ := f
  dsimp only at word
  split_ifs at word with init zero clear reset zero clear readSample clear
  · cases word
    simp_all [fieldsOf]
  · cases word
    obtain rfl := set a0 clear
    simp_all [fieldsOf]
  · cases word
    simp_all [fieldsOf]
  · rw [fieldsOf_of_readSampleAt word, readSample, not_not.1 clear]

theorem encode_of_decodeHost {b : Byte} {i : Instr} (word : decodeHost b = .ok i) : encode i = b := by
  rw [encode, fieldsOf_of_decodeHost word]
  exact joinHost_splitHost b

theorem decodeHost_encode {i : Instr} {f : HostFields} (format : fieldsOf i = .host f) :
    decodeHost (encode i) = .ok i := by
  cases i
  case init77 | init76 | reset | readSampleOsr256 | readSampleOsr512 | readSampleOsr1024 | readSampleOsr2048
      | readSampleOsr4096 => decide
  all_goals cases format

/-- The bytes of R53. -/
def hostWords : List Byte := [0x10, 0x11, 0x20, 0x30, 0x32, 0x34, 0x36, 0x38]

theorem mem_hostWords_of_decodeHost {b : Byte} {i : Instr} (word : decodeHost b = .ok i) : b ∈ hostWords := by
  have format := fieldsOf_of_decodeHost word
  rw [← encode_of_decodeHost word]
  cases i
  case init77 | init76 | reset | readSampleOsr256 | readSampleOsr512 | readSampleOsr1024 | readSampleOsr2048
      | readSampleOsr4096 => decide
  all_goals cases format

/-- A word outside the map is reserved (R55). -/
theorem decodeHost_of_not_mem_hostWords {b : Byte} (outside : b ∉ hostWords) : ∃ r, decodeHost b = .error r := by
  cases word : decodeHost b with
  | ok i => exact absurd (mem_hostWords_of_decodeHost word) outside
  | error r => exact ⟨r, rfl⟩

/-! ## Sensor command bytes -/

theorem decodeBus_encode {i : Instr} {f : BusFields} (format : fieldsOf i = .bus f) :
    decodeBus (encode i) = .ok i := by
  cases i
  case init77 | init76 | reset | readSampleOsr256 | readSampleOsr512 | readSampleOsr1024 | readSampleOsr2048
      | readSampleOsr4096 => cases format
  all_goals decide

/-- The bytes of R54. -/
def sensorBytes : List Byte :=
  [0x1E, 0x40, 0x42, 0x44, 0x46, 0x48, 0x50, 0x52, 0x54, 0x56, 0x58, 0x00,
    0xA0, 0xA2, 0xA4, 0xA6, 0xA8, 0xAA, 0xAC, 0xAE]

theorem mem_sensorBytes_of_decodeBus {b : Byte} {i : Instr} (command : decodeBus b = .ok i) : b ∈ sensorBytes := by
  obtain rfl := encode_of_decodeBus b i command
  cases i
  case init77 | init76 | reset | readSampleOsr256 | readSampleOsr512 | readSampleOsr1024 | readSampleOsr2048
      | readSampleOsr4096 => exact absurd command (by decide)
  all_goals decide

/-! ## The joint decoder -/

theorem decodeBus_of_mem_hostWords : ∀ b ∈ hostWords, decodeBus b = .error .notASensorCommand := by decide

/-- The opcode maps share no byte: as a host word, a sensor command byte is reserved. -/
theorem decodeHost_of_decodeBus {b : Byte} {i : Instr} (command : decodeBus b = .ok i) :
    ∃ r, decodeHost b = .error r := by
  refine decodeHost_of_not_mem_hostWords fun word => ?_
  rw [decodeBus_of_mem_hostWords b word] at command
  cases command

theorem decode_eq_ok (b : Byte) (i : Instr) : decode b = .ok i ↔ decodeHost b = .ok i ∨ decodeBus b = .ok i := by
  cases command : decodeBus b with
  | ok j =>
    obtain ⟨r, word⟩ := decodeHost_of_decodeBus command
    simp [decode, word, command]
  | error e => cases word : decodeHost b <;> simp [decode, word, command]

theorem decode_encode (i : Instr) : decode (encode i) = .ok i := by
  cases format : fieldsOf i with
  | host f => exact (decode_eq_ok _ _).2 (.inl (decodeHost_encode format))
  | bus f => exact (decode_eq_ok _ _).2 (.inr (decodeBus_encode format))

/-- A byte's row of the opcode table is what the joint decoder says of the byte. -/
theorem decodeTableWord_of_decode {b : Byte} {i : Instr} (word : decode b = .ok i) :
    decodeTableWord 8 b.toNat = some i := by
  simp [decodeTableWord, b.isLt, word]

/-- Settles O3: each decoder inverts the encoder on its own format, and the joint decoder is one of the two. -/
theorem decodeEncodeAgree : Obligations.DecodeEncodeAgree := by
  refine ⟨fun i => ⟨decode_encode i, decodeTableWord_of_decode (decode_encode i)⟩, fun b i word => ?_⟩
  rcases (decode_eq_ok b i).1 word with word | command
  · exact encode_of_decodeHost word
  · exact encode_of_decodeBus b i command

/-! ## Bytes that are not taken -/

/-- Settles O6: a word outside the map does not decode, and the step of an idle block with it is the trap. -/
theorem reservedWordRefused : Obligations.ReservedWordRefused := by
  refine ⟨by decide +kernel, fun s b later released idle moves outside => ?_⟩
  obtain ⟨r, reserved⟩ := decodeHost_of_not_mem_hostWords outside
  rw [step_of_not_reset released, coreStep_illegal (s := sampled s) idle moves reserved]
  rfl

theorem emitCommand_away {c : Byte} {s : State} (body : Byte → State → State) (away : ¬ emits c s = true) :
    emitCommand c body s = .refused .notEmittedHere := if_neg away

theorem exec_sensorCommand_away {c : Byte} {i : Instr} {s : State} (command : decodeBus c = .ok i)
    (away : ¬ emits c s = true) : exec i s = .refused .notEmittedHere := by
  rcases exec_sensorCommand c i command s with ⟨-, meaning⟩ | ⟨-, meaning⟩ | ⟨k, -, meaning⟩ <;>
    exact meaning.trans (emitCommand_away _ away)

/-- Settles O22: the step that emits a command's byte is a step of a busy block with that byte as its action. -/
theorem sensorCommandOnlyAtItsStep : Obligations.SensorCommandOnlyAtItsStep := by
  intro i f s format
  have refused := exec_sensorCommand_away (s := s) (decodeBus_encode format)
  refine ⟨fun idle => refused fun emitted => ?_, fun other => refused fun emitted => ?_⟩
  · exact absurd ((emits_iff _ s).1 emitted).1 (by simp [idle])
  · exact other ((emits_iff _ s).1 emitted).2

/-! ## The tables -/

/-- Settles O1: each word of the table is its instruction's encoded byte. -/
theorem hostWordTable : Obligations.HostWordTable :=
  have word (i : Instr) {f : HostFields} (format : fieldsOf i = .host f) := decodeHost_encode format
  ⟨word .init77 rfl, word .init76 rfl, word .reset rfl, word .readSampleOsr256 rfl, word .readSampleOsr512 rfl,
    word .readSampleOsr1024 rfl, word .readSampleOsr2048 rfl, word .readSampleOsr4096 rfl⟩

/-- Settles O2: each byte of the table is its instruction's encoded byte, and a byte that decodes is in the table. -/
theorem sensorCommandTable : Obligations.SensorCommandTable := by
  have command (i : Instr) {f : BusFields} (format : fieldsOf i = .bus f) := decodeBus_encode format
  refine ⟨⟨command .cmdReset rfl, by decide⟩, ?conversionsD1, ?conversionsD2, by decide,
    ⟨command .cmdAdcRead rfl, by decide⟩, ?words, by decide, ?only⟩
  case conversionsD1 =>
    exact ⟨command .cmdConvD1Osr256 rfl, command .cmdConvD1Osr512 rfl, command .cmdConvD1Osr1024 rfl,
      command .cmdConvD1Osr2048 rfl, command .cmdConvD1Osr4096 rfl⟩
  case conversionsD2 =>
    exact ⟨command .cmdConvD2Osr256 rfl, command .cmdConvD2Osr512 rfl, command .cmdConvD2Osr1024 rfl,
      command .cmdConvD2Osr2048 rfl, command .cmdConvD2Osr4096 rfl⟩
  case words =>
    exact ⟨command .cmdPromRead0 rfl, command .cmdPromRead1 rfl, command .cmdPromRead2 rfl, command .cmdPromRead3 rfl,
      command .cmdPromRead4 rfl, command .cmdPromRead5 rfl, command .cmdPromRead6 rfl, command .cmdPromRead7 rfl⟩
  case only =>
    rintro c ⟨i, decodes⟩
    exact mem_sensorBytes_of_decodeBus decodes

end Sys2Proof.Proofs
end

section
/-! The OSR ROM (40_osr_rom.md R59 to R61): which indices have an entry, and that the rows of the table ascend. -/

namespace Sys2Proof.Proofs

open Sys2Proof Sys2Proof.Machine

theorem osrEntry_eq_some_iff {i : U3} {e : OsrEntry} :
    osrEntry i = some e ↔ ∃ row : i.toNat < osrRom.length, osrRom[i.toNat] = e :=
  List.getElem?_eq_some_iff

theorem osrEntry_eq_none_iff {i : U3} : osrEntry i = none ↔ 4 < i.toNat :=
  List.getElem?_eq_none_iff

theorem osrRom_offset : ∀ row : Fin osrRom.length, osrRom[row].offset.toNat = 2 * row := by decide

theorem osrRom_pairwise_lt : osrRom.Pairwise fun a b => a.wait < b.wait ∧ a.offset < b.offset := by decide

/-- Settles O34: the table row by row; the lookup has an entry at exactly the table's indices. -/
theorem osrRomContents : Obligations.OsrRomContents := by
  refine ⟨rfl, by decide, by decide, fun i level => ?_, fun i beyond => osrEntry_eq_none_iff.2 beyond⟩
  have row : i.toNat < osrRom.length := Nat.lt_succ_of_le level
  exact ⟨osrRom[i.toNat], osrEntry_eq_some_iff.2 ⟨row, rfl⟩, osrRom_offset ⟨i.toNat, row⟩⟩

/-- Settles O35: both columns ascend along the table, and two indices with entries are two rows of it in their order. -/
theorem osrMonotone : Obligations.OsrMonotone := by
  intro i j a b lower entryI entryJ
  obtain ⟨rowI, rfl⟩ := osrEntry_eq_some_iff.1 entryI
  obtain ⟨rowJ, rfl⟩ := osrEntry_eq_some_iff.1 entryJ
  exact List.pairwise_iff_getElem.1 osrRom_pairwise_lt _ _ rowI rowJ (BitVec.lt_def.1 lower)

end Sys2Proof.Proofs
end

section
/-! The CRC validator (41_crc_validator.md). Every step of the checksum is linear over XOR, so what a change of the
words does to the nibble is the nibble of the change alone (R73). -/

namespace Sys2Proof.Proofs

open Sys2Proof Sys2Proof.Machine Sys2Proof.Laws

/-! ## The rules as they stand -/

/-- Settles O36: the stream entry by entry, and the definitions of the steps. -/
theorem crcSteps : Obligations.CrcSteps := by
  refine ⟨fun _ => rfl, fun _ _ => rfl, fun w k => ?_, fun _ => ⟨rfl, rfl, rfl, rfl, rfl, rfl⟩⟩
  match k with
  | 0 | 1 | 2 | 3 | 4 | 5 | 6 => exact ⟨rfl, rfl⟩

/-! ## The bit step -/

/-- What a bit step XORs in after the shift, by the bit shifted out (R66). -/
def crcFeedback (top : Bool) : U16 := if top then 0x3000 else 0

theorem crcBit_eq (acc : U16) : crcBit acc = acc <<< 1 ^^^ crcFeedback (acc.getLsbD 15) := by
  unfold crcBit crcFeedback
  split
  · rfl
  · exact BitVec.xor_zero.symm

theorem crcFeedback_xor : ∀ a b : Bool, crcFeedback (a ^^ b) = crcFeedback a ^^^ crcFeedback b := by decide

theorem crcBit_xor (a b : U16) : crcBit (a ^^^ b) = crcBit a ^^^ crcBit b := by
  rw [crcBit_eq, crcBit_eq, crcBit_eq, BitVec.shiftLeft_xor_distrib, BitVec.getLsbD_xor, crcFeedback_xor]
  ac_rfl

/-! ## Linearity: bit steps, bytes, streams, words -/

theorem crcBits_xor (n : Nat) (a b : U16) : crcBits n (a ^^^ b) = crcBits n a ^^^ crcBits n b := by
  induction n generalizing a b with
  | zero => rfl
  | succ n ih => simp only [crcBits, crcBit_xor, ih]

theorem crcByte_xor (a b : U16) (x y : Byte) : crcByte (a ^^^ b) (x ^^^ y) = crcByte a x ^^^ crcByte b y := by
  have regroup : a ^^^ b ^^^ (x ^^^ y).setWidth 16 = (a ^^^ x.setWidth 16) ^^^ (b ^^^ y.setWidth 16) := by
    rw [BitVec.setWidth_xor]
    ac_rfl
  rw [crcByte, regroup, crcBits_xor, crcByte, crcByte]

theorem foldl_crcByte_xor (xs ys : List Byte) (same : xs.length = ys.length) (a b : U16) :
    (List.zipWith (· ^^^ ·) xs ys).foldl crcByte (a ^^^ b) = xs.foldl crcByte a ^^^ ys.foldl crcByte b := by
  induction xs generalizing ys a b with
  | nil =>
    obtain rfl := List.length_eq_zero_iff.1 same.symm
    rfl
  | cons x xs ih =>
    obtain ⟨y, ys, rfl⟩ := List.exists_cons_of_length_eq_add_one same.symm
    simp only [List.zipWith_cons_cons, List.foldl_cons, crcByte_xor]
    exact ih ys (Nat.succ_injective same) _ _

theorem hiByte_xor (u v : U16) : hiByte (u ^^^ v) = hiByte u ^^^ hiByte v := BitVec.extractLsb'_xor

theorem loByte_xor (u v : U16) : loByte (u ^^^ v) = loByte u ^^^ loByte v := BitVec.extractLsb'_xor

theorem crcStream_xor (v w : PromWords) :
    crcStream (Vector.zipWith (· ^^^ ·) v w) = List.zipWith (· ^^^ ·) (crcStream v) (crcStream w) := by
  simp [crcStream, hiByte_xor, loByte_xor]

/-- Settles O37: the stream of the XOR is the XOR of the streams, and the accumulator's start 0 is 0 XOR 0. -/
theorem crcLinear : Obligations.CrcLinear := by
  intro v w
  have acc : crcAcc (Vector.zipWith (· ^^^ ·) v w) = crcAcc v ^^^ crcAcc w := by
    rw [crcAcc, crcStream_xor]
    exact foldl_crcByte_xor (crcStream v) (crcStream w) rfl 0 0
  rw [crc4, acc, BitVec.extractLsb'_xor, crc4, crc4]

/-- The stored nibble is linear too. -/
theorem storedNibble_xor (v w : PromWords) :
    storedNibble (Vector.zipWith (· ^^^ ·) v w) = storedNibble v ^^^ storedNibble w := by
  rw [storedNibble, Vector.getElem_zipWith]
  exact BitVec.extractLsb'_xor

/-! ## The accumulator's low byte -/

/-- The bits below `n` are 0. -/
def LowClear (n : Nat) (acc : U16) : Prop := ∀ i < n, acc.getLsbD i = false

theorem lowClear_byte_iff (acc : U16) : LowClear 8 acc ↔ acc.extractLsb' 0 8 = (0 : Byte) := by
  constructor
  · intro clear
    apply BitVec.eq_of_getLsbD_eq
    intro i bound
    simp [bound, clear i bound]
  · intro zero i bound
    have bit := congrArg (·.getLsbD i) zero
    simpa [bound] using bit

/-- The constant of R66 touches bits 12 and 13 only. -/
theorem crcFeedback_lowClear : ∀ top : Bool, LowClear 12 (crcFeedback top) := by
  unfold LowClear
  decide

/-- The shift brings in one more 0 from below. -/
theorem lowClear_crcBit {n : Nat} {acc : U16} (room : n < 12) (clear : LowClear n acc) :
    LowClear (n + 1) (crcBit acc) := by
  intro i bound
  rw [crcBit_eq, BitVec.getLsbD_xor, crcFeedback_lowClear _ i (by omega), Bool.xor_false, BitVec.getLsbD_shiftLeft]
  cases i with
  | zero => simp
  | succ i => simp [clear i (by omega)]

theorem lowClear_crcBits {m : Nat} (n : Nat) {acc : U16} (room : m + n ≤ 12) (clear : LowClear m acc) :
    LowClear (m + n) (crcBits n acc) := by
  induction n generalizing m acc with
  | zero => exact clear
  | succ n ih =>
    rw [← Nat.succ_add_eq_add_succ]
    exact ih (by omega) (lowClear_crcBit (by omega) clear)

/-- Eight shifts push out whatever the low byte held. -/
theorem lowClear_crcByte (acc : U16) (b : Byte) : LowClear 8 (crcByte acc b) :=
  lowClear_crcBits (m := 0) 8 (by decide) fun _ bound => absurd bound (Nat.not_lt_zero _)

/-- Settles O38: the last byte clears the low byte, whatever came before it. -/
theorem crcLowByteClear : Obligations.CrcLowByteClear := by
  intro bytes
  rcases List.eq_nil_or_concat' bytes with rfl | ⟨before, last, rfl⟩
  · rfl
  · rw [List.foldl_concat]
    exact (lowClear_byte_iff _).1 (lowClear_crcByte _ last)

/-! ## Changes of one word -/

/-- The word set that is 0 but for word `k`. -/
def onlyWord (k : Fin 8) (d : U16) : PromWords := (Vector.replicate 8 0).set k d

theorem set_xor_eq_zipWith (w : PromWords) (k : Fin 8) (d : U16) :
    w.set k (w[k] ^^^ d) = Vector.zipWith (· ^^^ ·) w (onlyWord k d) := by
  apply Vector.ext
  intro i bound
  by_cases here : k.val = i
  · subst here
    simp [onlyWord]
  · simp [onlyWord, here]

theorem crc4_set_xor (w : PromWords) (k : Fin 8) (d : U16) :
    crc4 (w.set k (w[k] ^^^ d)) = crc4 w ^^^ crc4 (onlyWord k d) := by
  rw [set_xor_eq_zipWith, crcLinear]

/-- A change of a word is invisible in the computed nibble exactly when its own nibble is 0. -/
theorem crc4_set_xor_eq_iff (w : PromWords) (k : Fin 8) (d : U16) :
    crc4 (w.set k (w[k] ^^^ d)) = crc4 w ↔ crc4 (onlyWord k d) = 0 := by
  rw [crc4_set_xor, xor_left_eq_self_iff]

theorem storedNibble_set_xor_eq_iff (w : PromWords) (k : Fin 8) (d : U16) :
    storedNibble (w.set k (w[k] ^^^ d)) = storedNibble w ↔ storedNibble (onlyWord k d) = 0 := by
  rw [set_xor_eq_zipWith, storedNibble_xor, xor_left_eq_self_iff]

/-- The bits that contribute nothing to the computed nibble, of the table of contributions in 95_test_vectors.md. -/
theorem crc4_oneBit_eq_zero_iff : ∀ (k : Fin 8) (b : Fin 16),
    crc4 (onlyWord k (1 <<< b.val)) = 0 ↔ k.val = 7 ∧ b.val < 8 := by decide +kernel

theorem storedNibble_oneBit_eq_zero_iff : ∀ (k : Fin 8) (b : Fin 16),
    storedNibble (onlyWord k (1 <<< b.val)) = 0 ↔ ¬ (k.val = 7 ∧ b.val < 4) := by decide +kernel

/-- Settles O39: the change's own nibbles say which of the two nibbles it changes. -/
theorem crcSingleBitDetection : Obligations.CrcSingleBitDetection := by
  intro w k b v
  have computed : crc4 v = crc4 w ↔ k.val = 7 ∧ b.val < 8 :=
    (crc4_set_xor_eq_iff w k _).trans (crc4_oneBit_eq_zero_iff k b)
  have stored : storedNibble v = storedNibble w ↔ ¬ (k.val = 7 ∧ b.val < 4) :=
    (storedNibble_set_xor_eq_iff w k _).trans (storedNibble_oneBit_eq_zero_iff k b)
  rw [Ne, Ne, computed, stored]
  omega

/-- The nibble of a change of several bits of a word is the XOR of their contributions. -/
theorem crc4_onlyWord_xor (k : Fin 8) (d e : U16) :
    crc4 (onlyWord k (d ^^^ e)) = crc4 (onlyWord k d) ^^^ crc4 (onlyWord k e) := by
  rw [← crc4_set_xor]
  simp [onlyWord]

theorem crc4_word0_bit0 : crc4 (onlyWord 0 0x0001) = 8 := by decide +kernel

theorem crc4_word0_bit15 : crc4 (onlyWord 0 0x8000) = 8 := by decide +kernel

/-- Settles O40: the two bits contribute the same nibble, so together they cancel. -/
theorem crcDoubleBitUndetected : Obligations.CrcDoubleBitUndetected := by
  have cancel : crc4 (onlyWord 0 (0x0001 ^^^ 0x8000)) = 0 := by
    rw [crc4_onlyWord_xor, crc4_word0_bit0, crc4_word0_bit15]
    exact BitVec.xor_self
  exact fun w => (crc4_set_xor_eq_iff w 0 0x8001).2 cancel

/-! ## The check as a step of INIT -/

/-- INIT's row of R89 after the eight PROM reads. -/
theorem currentAction_initCheck (p : Params) {r : Regs} (op : r.op = .init) (upc : r.upc = 8) :
    currentAction p r = .ok .crcCheck := by
  simp [currentAction, op, upc]

/-- Settles O24: the step is the block's accepting move or its rejecting one, by the nibbles. -/
theorem crcCheckStep : Obligations.CrcCheckStep := by
  intro s w released busy op upc words
  have action := currentAction_initCheck s.params op upc
  constructor
  · intro agree
    have move := CoreMove.accept (s := sampled s) w busy action words agree
    rw [(step_eq_next s _).2 (.inr ⟨released, move⟩), ← dropOuterWords_map w, ← words]
    rfl
  · intro differ
    have move := CoreMove.reject (s := sampled s) w busy action words differ
    exact (step_eq_next s _).2 (.inr ⟨released, move⟩)

end Sys2Proof.Proofs
end

section
/-! The compensation engine (42_compensation.md): the branches of the correction, the range of each step, and the same
steps on 64-bit words. A range over all raw values and coefficients follows step by step from the ranges of the operands
(R85), and within these ranges a word operation is the operation on integers. -/

namespace Sys2Proof.Proofs

open Sys2Proof Sys2Proof.Machine Sys2Proof.Laws

/-! ## The compensation as a step of READ_SAMPLE -/

/-- READ_SAMPLE's last row of R89. -/
theorem currentAction_readCompensate (p : Params) {r : Regs} (op : r.op = .readSample) (upc : r.upc = 6) :
    currentAction p r = .ok .compensate := by
  simp [currentAction, op, upc]

/-- Settles O25: the step is the block's compensating move, which only needs `D1`, `D2` and `CAL` to hold values. -/
theorem compensateStep : Obligations.CompensateStep := by
  intro s d1 d2 c released busy op upc raw1 raw2 cal
  have action := currentAction_readCompensate s.params op upc
  have move := CoreMove.compensate (s := sampled s) d1 d2 c busy action raw1 raw2 cal
  exact (step_eq_next s _).2 (.inr ⟨released, move⟩)

/-! ## The branches of the second-order correction -/

/-- The third branch (R81). -/
theorem correction_of_ge {dT temp0 : Int} (warm : 2000 ≤ temp0) : correction dT temp0 = ⟨0, 0, 0⟩ :=
  if_neg (not_lt.2 warm)

/-- The first branch alone (R79). -/
theorem correction_of_low {dT temp0 : Int} (low : temp0 < 2000) (notVeryLow : -1500 ≤ temp0) :
    correction dT temp0 = lowCorrection dT temp0 := by
  rw [correction, if_pos low, if_neg (not_lt.2 notVeryLow)]

/-- The second branch on top of the first (R80). -/
theorem correction_of_veryLow {dT temp0 : Int} (veryLow : temp0 < -1500) :
    correction dT temp0 = veryLowCorrection temp0 (lowCorrection dT temp0) := by
  rw [correction, if_pos (by omega), if_pos veryLow]

/-- The three cases of `TEMP0`, with the correction each takes. -/
theorem correction_cases (dT temp0 : Int) :
    (2000 ≤ temp0 ∧ correction dT temp0 = ⟨0, 0, 0⟩) ∨
    (temp0 < 2000 ∧ -1500 ≤ temp0 ∧ correction dT temp0 = lowCorrection dT temp0) ∨
    (temp0 < -1500 ∧ correction dT temp0 = veryLowCorrection temp0 (lowCorrection dT temp0)) := by
  rcases le_or_gt 2000 temp0 with warm | low
  · exact .inl ⟨warm, correction_of_ge warm⟩
  · rcases le_or_gt (-1500) temp0 with notVeryLow | veryLow
    · exact .inr (.inl ⟨low, notVeryLow, correction_of_low low notVeryLow⟩)
    · exact .inr (.inr ⟨veryLow, correction_of_veryLow veryLow⟩)

/-! ## The formulas -/

theorem lowCorrection_t2 (dT temp0 : Int) : (lowCorrection dT temp0).t2 = dT ^ 2 / 2147483648 := by
  rw [sq]
  rfl

theorem lowCorrection_off2 (dT temp0 : Int) : (lowCorrection dT temp0).off2 = 5 * (temp0 - 2000) ^ 2 / 2 := by
  rw [sq]
  rfl

/-- The two floor shifts by 1 are one division by 4 (R79). -/
theorem lowCorrection_sens2 (dT temp0 : Int) : (lowCorrection dT temp0).sens2 = 5 * (temp0 - 2000) ^ 2 / 4 := by
  have halves : (lowCorrection dT temp0).sens2 = (lowCorrection dT temp0).off2 / 2 := rfl
  rw [halves, lowCorrection_off2]
  omega

theorem veryLowCorrection_t2 (temp0 : Int) (k : Correction) : (veryLowCorrection temp0 k).t2 = k.t2 := rfl

theorem veryLowCorrection_off2 (temp0 : Int) (k : Correction) :
    (veryLowCorrection temp0 k).off2 = k.off2 + 7 * (temp0 + 1500) ^ 2 := by
  rw [sq]
  rfl

theorem veryLowCorrection_sens2 (temp0 : Int) (k : Correction) :
    (veryLowCorrection temp0 k).sens2 = k.sens2 + 11 * (temp0 + 1500) ^ 2 / 2 := by
  rw [sq]
  rfl

theorem compDT_eq (d2 : Int) (c : Calibration) : compDT d2 c = d2 - 256 * (c.c5.toNat : Int) :=
  congrArg (d2 - ·) (mul_comm _ _)

theorem compOff_eq (dT : Int) (c : Calibration) :
    compOff dT c = 65536 * (c.c2.toNat : Int) + dT * (c.c4.toNat : Int) / 128 :=
  congrArg (· + _) (mul_comm _ _)

theorem compSens_eq (dT : Int) (c : Calibration) :
    compSens dT c = 32768 * (c.c1.toNat : Int) + dT * (c.c3.toNat : Int) / 256 :=
  congrArg (· + _) (mul_comm _ _)

/-- Both branches below 20.00 degrees have the same `T2`. -/
theorem correction_t2_of_low {dT temp0 : Int} (low : temp0 < 2000) :
    (correction dT temp0).t2 = dT ^ 2 / 2147483648 := by
  rw [← lowCorrection_t2 dT temp0]
  rcases correction_cases dT temp0 with ⟨warm, -⟩ | ⟨-, -, branch⟩ | ⟨-, branch⟩
  · exact absurd low (not_lt.2 warm)
  · rw [branch]
  · rw [branch, veryLowCorrection_t2]

/-- Settles O41: each step by its formula, the corrections by the branch `TEMP0` takes. -/
theorem compensationFormulas : Obligations.CompensationFormulas := by
  intro d1 d2 c
  refine ⟨compDT_eq d2 c, rfl, fun warm => ?_, correction_t2_of_low, fun notVeryLow low => ?_, fun veryLow => ?_,
    rfl, ?_, ?_, rfl⟩
  all_goals dsimp only [compensate] at *
  · rw [correction_of_ge warm]
    exact ⟨rfl, rfl, rfl⟩
  · rw [correction_of_low low notVeryLow]
    exact ⟨lowCorrection_off2 _ _, lowCorrection_sens2 _ _⟩
  · rw [correction_of_veryLow veryLow, veryLowCorrection_off2, veryLowCorrection_sens2, lowCorrection_off2,
      lowCorrection_sens2]
    exact ⟨rfl, rfl⟩
  · rw [compOff_eq]
  · rw [compSens_eq]

/-- Settles O44: the second branch adds multiples of a square that is not 0. -/
theorem veryLowBranchAdds : Obligations.VeryLowBranchAdds := by
  intro dT temp0 veryLow
  have square : 0 < (temp0 + 1500) ^ 2 := sq_pos_of_ne_zero (by omega)
  rw [correction_of_veryLow veryLow, veryLowCorrection_off2, veryLowCorrection_sens2, veryLowCorrection_t2]
  omega

/-- Settles O45: without coefficients `TEMP0` is 2000, which takes no correction, and `OFF` and `SENS` are 0. -/
theorem zeroCalibration : Obligations.ZeroCalibration := by
  intro d1 d2
  simp [compensate, compTemp0, compOff, compSens, compPressure, shr, correction_of_ge]

/-! ## The ranges -/

/-- A product of a signed factor and an unsigned one lies between the products of their bounds. -/
theorem mul_mem_Icc {a lo hi b top : Int} (signed : a ∈ Set.Icc lo hi) (lo_nonpos : lo ≤ 0) (hi_nonneg : 0 ≤ hi)
    (unsigned : b ∈ Set.Icc 0 top) : a * b ∈ Set.Icc (lo * top) (hi * top) := by
  obtain ⟨lower, upper⟩ := signed
  obtain ⟨nonneg, bound⟩ := unsigned
  constructor
  · calc lo * top ≤ lo * b := mul_le_mul_of_nonpos_left bound lo_nonpos
      _ ≤ a * b := mul_le_mul_of_nonneg_right lower nonneg
  · calc a * b ≤ hi * b := mul_le_mul_of_nonneg_right upper nonneg
      _ ≤ hi * top := mul_le_mul_of_nonneg_left bound hi_nonneg

theorem sq_mem_Icc {a top : Int} (bound : |a| ≤ top) : a ^ 2 ∈ Set.Icc 0 (top ^ 2) :=
  ⟨sq_nonneg a, sq_le_sq' (abs_le.1 bound).1 (abs_le.1 bound).2⟩

theorem coefficient_mem_Icc (x : U16) : (x.toNat : Int) ∈ Set.Icc 0 65535 := by
  have := x.isLt
  constructor <;> omega

/-- R75's corner cases. -/
theorem compDT_mem_Icc {d2 : Int} (c : Calibration) (raw : d2 ∈ Set.Icc 0 16777215) :
    compDT d2 c ∈ Set.Icc (-16776960) 16777215 := by
  obtain ⟨lower, upper⟩ := raw
  have := c.c5.isLt
  rw [compDT_eq]
  constructor <;> omega

section
variable {dT temp0 : Int}

theorem dT_mul_coefficient_mem_Icc (range : dT ∈ Set.Icc (-16776960) 16777215) (x : U16) :
    dT * (x.toNat : Int) ∈ Set.Icc (-16776960 * 65535) (16777215 * 65535) :=
  mul_mem_Icc range (by decide) (by decide) (coefficient_mem_Icc x)

theorem dT_sq_mem_Icc (range : dT ∈ Set.Icc (-16776960) 16777215) : dT ^ 2 ∈ Set.Icc 0 (16777215 ^ 2) := by
  obtain ⟨lower, upper⟩ := range
  exact sq_mem_Icc (abs_le.2 ⟨by omega, upper⟩)

theorem compTemp0_mem_Icc (c : Calibration) (range : dT ∈ Set.Icc (-16776960) 16777215) :
    compTemp0 dT c ∈ Set.Icc (-129069) 133069 := by
  obtain ⟨lower, upper⟩ := dT_mul_coefficient_mem_Icc range c.c6
  rw [compTemp0, shr]
  constructor <;> omega

theorem compOff_mem_Icc (c : Calibration) (range : dT ∈ Set.Icc (-16776960) 16777215) :
    compOff dT c ∈ Set.Icc (-8589672450) 12884704768 := by
  obtain ⟨lower, upper⟩ := dT_mul_coefficient_mem_Icc range c.c4
  have := c.c2.isLt
  rw [compOff_eq]
  constructor <;> omega

theorem compSens_mem_Icc (c : Calibration) (range : dT ∈ Set.Icc (-16776960) 16777215) :
    compSens dT c ∈ Set.Icc (-4294836225) 6442352384 := by
  obtain ⟨lower, upper⟩ := dT_mul_coefficient_mem_Icc range c.c3
  have := c.c1.isLt
  rw [compSens_eq]
  constructor <;> omega

/-- Below 20.00 degrees the distance from there is at most the one of the least `TEMP0`. -/
theorem low_sq_mem_Icc (low : temp0 < 2000) (least : -129069 ≤ temp0) :
    (temp0 - 2000) ^ 2 ∈ Set.Icc 0 (131069 ^ 2) :=
  sq_mem_Icc (abs_le.2 ⟨by omega, by omega⟩)

theorem veryLow_sq_mem_Icc (veryLow : temp0 < -1500) (least : -129069 ≤ temp0) :
    (temp0 + 1500) ^ 2 ∈ Set.Icc 0 (127569 ^ 2) :=
  sq_mem_Icc (abs_le.2 ⟨by omega, by omega⟩)

/-- Below 20.00 degrees `dT` is negative, so `T2` is bounded by the least `dT` (R85). -/
theorem dT_neg_of_low (c : Calibration) (low : compTemp0 dT c < 2000) : dT < 0 := by
  rw [compTemp0, shr] at low
  by_contra! nonneg
  have := mul_nonneg nonneg (Int.natCast_nonneg c.c6.toNat)
  omega

theorem lowCorrection_t2_mem_Icc (temp0 : Int) (least : -16776960 ≤ dT) (cold : dT < 0) :
    (lowCorrection dT temp0).t2 ∈ Set.Icc 0 131068 := by
  obtain ⟨nonneg, bound⟩ := sq_mem_Icc (top := 16776960) (abs_le.2 ⟨least, by omega⟩)
  rw [lowCorrection_t2]
  constructor <;> omega

theorem correction_mem_Icc (c : Calibration) (range : dT ∈ Set.Icc (-16776960) 16777215) :
    (correction dT (compTemp0 dT c)).t2 ∈ Set.Icc 0 131068 ∧
    (correction dT (compTemp0 dT c)).off2 ∈ Set.Icc 0 156864655229 ∧
    (correction dT (compTemp0 dT c)).sens2 ∈ Set.Icc 0 110980027136 := by
  obtain ⟨least, -⟩ := compTemp0_mem_Icc c range
  have t2 := fun low => lowCorrection_t2_mem_Icc (compTemp0 dT c) range.1 (dT_neg_of_low c low)
  rcases correction_cases dT (compTemp0 dT c) with ⟨-, branch⟩ | ⟨low, -, branch⟩ | ⟨veryLow, branch⟩
  · rw [branch]
    simp
  · obtain ⟨nonneg, bound⟩ := low_sq_mem_Icc low least
    rw [branch, lowCorrection_off2, lowCorrection_sens2]
    exact ⟨t2 low, ⟨by omega, by omega⟩, by omega, by omega⟩
  · have low : compTemp0 dT c < 2000 := by omega
    obtain ⟨lowNonneg, lowBound⟩ := low_sq_mem_Icc low least
    obtain ⟨nonneg, bound⟩ := veryLow_sq_mem_Icc veryLow least
    rw [branch, veryLowCorrection_t2, veryLowCorrection_off2, veryLowCorrection_sens2, lowCorrection_off2,
      lowCorrection_sens2]
    exact ⟨t2 low, ⟨by omega, by omega⟩, by omega, by omega⟩

theorem off_mem_Icc (c : Calibration) (range : dT ∈ Set.Icc (-16776960) 16777215) :
    compOff dT c - (correction dT (compTemp0 dT c)).off2 ∈ Set.Icc (-165454327679) 12884704768 := by
  obtain ⟨lower, upper⟩ := compOff_mem_Icc c range
  obtain ⟨-, ⟨nonneg, bound⟩, -⟩ := correction_mem_Icc c range
  constructor <;> omega

theorem sens_mem_Icc (c : Calibration) (range : dT ∈ Set.Icc (-16776960) 16777215) :
    compSens dT c - (correction dT (compTemp0 dT c)).sens2 ∈ Set.Icc (-115274863361) 6442352384 := by
  obtain ⟨lower, upper⟩ := compSens_mem_Icc c range
  obtain ⟨-, -, nonneg, bound⟩ := correction_mem_Icc c range
  constructor <;> omega

end

/-- The largest magnitude of the datapath (R85). -/
theorem d1_mul_sens_mem_Icc {d1 sens : Int} (raw : d1 ∈ Set.Icc 0 16777215)
    (range : sens ∈ Set.Icc (-115274863361) 6442352384) :
    d1 * sens ∈ Set.Icc (-1933991166703119615) 108084731052130560 := by
  rw [mul_comm]
  exact mul_mem_Icc range (by decide) (by decide) raw

/-- Settles O42: each range from the ranges of the steps before it. -/
theorem compensationRanges : Obligations.CompensationRanges := by
  intro d1 d2 c d1Nonneg d1Bound d2Nonneg d2Bound
  have dT := compDT_mem_Icc c ⟨d2Nonneg, d2Bound⟩
  have temp0 := compTemp0_mem_Icc c dT
  obtain ⟨t2, off2, sens2⟩ := correction_mem_Icc c dT
  have off := off_mem_Icc c dT
  have sens := sens_mem_Icc c dT
  have product := d1_mul_sens_mem_Icc ⟨d1Nonneg, d1Bound⟩ sens
  refine ⟨dT, temp0, t2, off2, sens2, ?_, off, sens, product, ?_⟩
  all_goals
    dsimp only [compensate, compPressure, shr]
    rw [Set.mem_Icc] at temp0 t2 off product
    omega

/-! ## The same steps on 64-bit words -/

theorem ofInt_sub (x y : Int) : BitVec.ofInt 64 (x - y) = BitVec.ofInt 64 x - BitVec.ofInt 64 y := by
  rw [sub_eq_add_neg, BitVec.ofInt_add, BitVec.ofInt_neg, ← BitVec.sub_eq_add_neg]

/-- Within the range of a word the word's arithmetic shift is the floor shift. -/
theorem sshiftRight_ofInt {v : Int} (fits : v ∈ Set.Ico (-2 ^ 63) (2 ^ 63)) (n : Nat) :
    (BitVec.ofInt 64 v).sshiftRight n = BitVec.ofInt 64 (shr v n) := by
  have value : (BitVec.ofInt 64 v).toInt = v := BitVec.toInt_ofInt_eq_self (by decide) fits.1 fits.2
  rw [← BitVec.ofInt_toInt (x := (BitVec.ofInt 64 v).sshiftRight n), BitVec.toInt_sshiftRight, value,
    Int.shiftRight_eq_div_pow]
  norm_num [shr]

theorem slt_ofInt {v w : Int} (left : v ∈ Set.Ico (-2 ^ 63) (2 ^ 63)) (right : w ∈ Set.Ico (-2 ^ 63) (2 ^ 63)) :
    (BitVec.ofInt 64 v).slt (BitVec.ofInt 64 w) = decide (v < w) := by
  rw [BitVec.slt_eq_decide, BitVec.toInt_ofInt_eq_self (by decide) left.1 left.2,
    BitVec.toInt_ofInt_eq_self (by decide) right.1 right.2]

theorem coefficient_word (x : U16) : x.setWidth 64 = BitVec.ofInt 64 (x.toNat : Int) := by
  rw [BitVec.ofInt_natCast, BitVec.ofNat_toNat]

theorem shiftLeft_ofInt (v : Int) (n : Nat) : BitVec.ofInt 64 v <<< n = BitVec.ofInt 64 (v * 2 ^ n) := by
  have factor : BitVec.ofInt 64 (2 ^ n) = BitVec.twoPow 64 n := by
    have cast : (2 : Int) ^ n = (2 ^ n : Nat) := by norm_cast
    rw [cast, BitVec.ofInt_natCast]
    exact BitVec.eq_of_toNat_eq (by simp)
  rw [BitVec.shiftLeft_eq_mul_twoPow, BitVec.ofInt_mul, factor]

theorem compDT_word (d2 : S32) (c : Calibration) :
    d2.signExtend 64 - c.c5.setWidth 64 <<< 8 = BitVec.ofInt 64 (compDT d2.toInt c) := by
  rw [compDT, ofInt_sub, coefficient_word, shiftLeft_ofInt]
  rfl

section
variable {dT temp0 : Int}

/-- A coefficient's term: the product fits, so its shift is the floor shift. -/
theorem scaled_word (range : dT ∈ Set.Icc (-16776960) 16777215) (x : U16) (n : Nat) :
    (BitVec.ofInt 64 dT * x.setWidth 64).sshiftRight n = BitVec.ofInt 64 (shr (dT * (x.toNat : Int)) n) := by
  obtain ⟨lower, upper⟩ := dT_mul_coefficient_mem_Icc range x
  rw [coefficient_word, ← BitVec.ofInt_mul, sshiftRight_ofInt ⟨by omega, by omega⟩]

theorem compTemp0_word (c : Calibration) (range : dT ∈ Set.Icc (-16776960) 16777215) :
    2000 + (BitVec.ofInt 64 dT * c.c6.setWidth 64).sshiftRight 23 = BitVec.ofInt 64 (compTemp0 dT c) := by
  rw [scaled_word range, compTemp0, BitVec.ofInt_add]
  rfl

theorem compOff_word (c : Calibration) (range : dT ∈ Set.Icc (-16776960) 16777215) :
    c.c2.setWidth 64 <<< 16 + (BitVec.ofInt 64 dT * c.c4.setWidth 64).sshiftRight 7 =
      BitVec.ofInt 64 (compOff dT c) := by
  rw [scaled_word range, compOff, BitVec.ofInt_add, coefficient_word, shiftLeft_ofInt]

theorem compSens_word (c : Calibration) (range : dT ∈ Set.Icc (-16776960) 16777215) :
    c.c1.setWidth 64 <<< 15 + (BitVec.ofInt 64 dT * c.c3.setWidth 64).sshiftRight 8 =
      BitVec.ofInt 64 (compSens dT c) := by
  rw [scaled_word range, compSens, BitVec.ofInt_add, coefficient_word, shiftLeft_ofInt]

/-- `T2` of the first branch. -/
theorem t2_word (temp0 : Int) (range : dT ∈ Set.Icc (-16776960) 16777215) :
    (BitVec.ofInt 64 dT * BitVec.ofInt 64 dT).sshiftRight 31 = BitVec.ofInt 64 (lowCorrection dT temp0).t2 := by
  obtain ⟨lower, upper⟩ := dT_sq_mem_Icc range
  rw [sq] at lower upper
  rw [← BitVec.ofInt_mul, sshiftRight_ofInt ⟨by omega, by omega⟩]
  rfl

/-- `OFF2` of the first branch. -/
theorem off2_word (dT : Int) (low : temp0 < 2000) (least : -129069 ≤ temp0) :
    (5 * ((BitVec.ofInt 64 temp0 - 2000) * (BitVec.ofInt 64 temp0 - 2000))).sshiftRight 1 =
      BitVec.ofInt 64 (lowCorrection dT temp0).off2 := by
  have product : 5 * ((BitVec.ofInt 64 temp0 - 2000) * (BitVec.ofInt 64 temp0 - 2000)) =
      BitVec.ofInt 64 (5 * ((temp0 - 2000) * (temp0 - 2000))) := by
    rw [BitVec.ofInt_mul, BitVec.ofInt_mul, ofInt_sub]
    rfl
  obtain ⟨lower, upper⟩ := low_sq_mem_Icc low least
  rw [sq] at lower upper
  rw [product, sshiftRight_ofInt ⟨by omega, by omega⟩]
  rfl

/-- `SENS2` of the first branch, from its `OFF2`. -/
theorem sens2_word (dT : Int) (low : temp0 < 2000) (least : -129069 ≤ temp0) :
    (BitVec.ofInt 64 (lowCorrection dT temp0).off2).sshiftRight 1 = BitVec.ofInt 64 (lowCorrection dT temp0).sens2 := by
  obtain ⟨lower, upper⟩ := low_sq_mem_Icc low least
  have off2 := lowCorrection_off2 dT temp0
  rw [sshiftRight_ofInt ⟨by omega, by omega⟩]
  rfl

/-- The square the second branch multiplies. -/
theorem veryLow_square_word (k temp0 : Int) :
    BitVec.ofInt 64 k * ((BitVec.ofInt 64 temp0 + 1500) * (BitVec.ofInt 64 temp0 + 1500)) =
      BitVec.ofInt 64 (k * ((temp0 + 1500) * (temp0 + 1500))) := by
  rw [BitVec.ofInt_mul, BitVec.ofInt_mul, BitVec.ofInt_add]
  rfl

/-- What the second branch adds to `SENS2`. -/
theorem veryLow_sens2_word (veryLow : temp0 < -1500) (least : -129069 ≤ temp0) :
    (11 * ((BitVec.ofInt 64 temp0 + 1500) * (BitVec.ofInt 64 temp0 + 1500))).sshiftRight 1 =
      BitVec.ofInt 64 (shr (11 * ((temp0 + 1500) * (temp0 + 1500))) 1) := by
  obtain ⟨lower, upper⟩ := veryLow_sq_mem_Icc veryLow least
  rw [sq] at lower upper
  rw [← sshiftRight_ofInt ⟨by omega, by omega⟩, ← veryLow_square_word]
  rfl

/-- The branches on words are the branches on integers, and so are their values. -/
theorem correction64_word (dTRange : dT ∈ Set.Icc (-16776960) 16777215) (range : temp0 ∈ Set.Icc (-129069) 133069) :
    correction64 (BitVec.ofInt 64 dT) (BitVec.ofInt 64 temp0) =
      (BitVec.ofInt 64 (correction dT temp0).t2, BitVec.ofInt 64 (correction dT temp0).off2,
        BitVec.ofInt 64 (correction dT temp0).sens2) := by
  obtain ⟨least, greatest⟩ := range
  have lowTest : (BitVec.ofInt 64 temp0).slt 2000 = decide (temp0 < 2000) :=
    slt_ofInt (w := 2000) ⟨by omega, by omega⟩ ⟨by decide, by decide⟩
  have veryLowTest : (BitVec.ofInt 64 temp0).slt (-1500) = decide (temp0 < -1500) :=
    slt_ofInt (w := -1500) ⟨by omega, by omega⟩ ⟨by decide, by decide⟩
  simp only [correction64, lowTest, veryLowTest, decide_eq_true_eq]
  rcases correction_cases dT temp0 with ⟨warm, branch⟩ | ⟨low, notVeryLow, branch⟩ | ⟨veryLow, branch⟩
  · rw [if_neg (not_lt.2 warm), branch]
    rfl
  · rw [if_pos low, if_neg (not_lt.2 notVeryLow), branch, t2_word temp0 dTRange, off2_word dT low least,
      sens2_word dT low least]
  · have low : temp0 < 2000 := by omega
    have added : 7 * ((BitVec.ofInt 64 temp0 + 1500) * (BitVec.ofInt 64 temp0 + 1500)) =
        BitVec.ofInt 64 (7 * ((temp0 + 1500) * (temp0 + 1500))) := veryLow_square_word 7 temp0
    rw [if_pos low, if_pos veryLow, branch, t2_word temp0 dTRange, off2_word dT low least, sens2_word dT low least,
      veryLow_sens2_word veryLow least, added, ← BitVec.ofInt_add, ← BitVec.ofInt_add]
    rfl

/-- Step 7 on words. -/
theorem compPressure_word {d1 sens off : Int} (raw : d1 ∈ Set.Icc 0 16777215)
    (sensRange : sens ∈ Set.Icc (-115274863361) 6442352384) (offRange : off ∈ Set.Icc (-165454327679) 12884704768) :
    ((BitVec.ofInt 64 d1 * BitVec.ofInt 64 sens).sshiftRight 21 - BitVec.ofInt 64 off).sshiftRight 15 =
      BitVec.ofInt 64 (compPressure d1 sens off) := by
  obtain ⟨lower, upper⟩ := d1_mul_sens_mem_Icc raw sensRange
  obtain ⟨offLower, offUpper⟩ := offRange
  have quotient : shr (d1 * sens) 21 - off ∈ Set.Ico (-2 ^ 63) (2 ^ 63) := by
    rw [shr]
    constructor <;> omega
  rw [← BitVec.ofInt_mul, sshiftRight_ofInt ⟨by omega, by omega⟩, ← ofInt_sub, sshiftRight_ofInt quotient]
  rfl

end

theorem toInt_mem_Icc_of_rawWf {d : S32} (raw : rawWf d = true) : d.toInt ∈ Set.Icc 0 16777215 := by
  have bound : d.toNat < 16777216 := by simpa [rawWf] using raw
  rw [BitVec.toInt_eq_toNat_of_lt (by omega)]
  constructor <;> omega

/-- Settles O43: step by step, since no operation leaves the range of a word. -/
theorem exactEqualsWrapping : Obligations.ExactEqualsWrapping := by
  intro d1 d2 c raw1 raw2
  have dT := compDT_mem_Icc c (toInt_mem_Icc_of_rawWf raw2)
  have pressure := compPressure_word (toInt_mem_Icc_of_rawWf raw1) (sens_mem_Icc c dT) (off_mem_Icc c dT)
  simp only [compensate64, compDT_word, compTemp0_word c dT, correction64_word dT (compTemp0_mem_Icc c dT),
    compOff_word c dT, compSens_word c dT, ← ofInt_sub]
  rw [BitVec.signExtend, pressure]
  rfl

end Sys2Proof.Proofs
end

section
/-! `RNE32` and the default `FLOAT_CONV` (42_compensation.md R84): the exponent, the rounding of the significand, the
bits of the pattern and what they stand for. All magnitudes are in units of 2^-149, the least positive number. -/

namespace Sys2Proof.Proofs

open Sys2Proof Sys2Proof.Machine Sys2Proof.Laws

/-! ## Rounding to the nearest natural number -/

/-- `m` is within half a unit of `num / den`, and even where it is half a unit away. -/
def RoundsTo (m num den : Nat) : Prop :=
  2 * (m * den) ≤ 2 * num + den ∧ 2 * num ≤ 2 * (m * den) + den ∧
  (2 * (m * den) = 2 * num + den ∨ 2 * num = 2 * (m * den) + den → m % 2 = 0)

theorem roundsTo_roundNearestEven (num : Nat) {den : Nat} (pos : 0 < den) :
    RoundsTo (roundNearestEven num den) num den := by
  have division := Nat.div_add_mod' num den
  have remainder := Nat.mod_lt num pos
  unfold roundNearestEven RoundsTo
  dsimp only
  split
  · omega
  · split
    · rw [Nat.add_mul, Nat.one_mul]
      omega
    · rcases Nat.mod_two_eq_zero_or_one (num / den) with even | odd
      · rw [even, Nat.add_zero]
        omega
      · rw [odd, Nat.add_mul, Nat.one_mul]
        omega

/-- Only the quotient counts. -/
theorem roundNearestEven_mul_right (num den : Nat) {c : Nat} (pos : 0 < c) :
    roundNearestEven (num * c) (den * c) = roundNearestEven num den := by
  have doubled : 2 * (num % den * c) = 2 * (num % den) * c := (Nat.mul_assoc _ _ _).symm
  simp only [roundNearestEven, Nat.mul_div_mul_right num den pos, Nat.mul_mod_mul_right, doubled,
    Nat.mul_lt_mul_right pos]

section
variable {m num den : Nat}

theorem RoundsTo.le_of_mul_le (rounds : RoundsTo m num den) (pos : 0 < den) {j : Nat} (below : j * den ≤ num) :
    j ≤ m := by
  by_contra! less
  have gap : (m + 1) * den ≤ j * den := Nat.mul_le_mul_right den less
  rw [Nat.succ_mul] at gap
  obtain ⟨-, lower, -⟩ := rounds
  omega

theorem RoundsTo.le_of_le_mul (rounds : RoundsTo m num den) (pos : 0 < den) {j : Nat} (above : num ≤ j * den) :
    m ≤ j := by
  by_contra! less
  have gap : (j + 1) * den ≤ m * den := Nat.mul_le_mul_right den less
  rw [Nat.succ_mul] at gap
  obtain ⟨upper, -⟩ := rounds
  omega

theorem RoundsTo.eq_of_eq_mul (rounds : RoundsTo m num den) (pos : 0 < den) {j : Nat} (exact : num = j * den) : m = j :=
  le_antisymm (rounds.le_of_le_mul pos exact.le) (rounds.le_of_mul_le pos exact.ge)

/-- No multiple of `den` is nearer, and where another is as near `m` is even. -/
theorem RoundsTo.nearest (rounds : RoundsTo m num den) (pos : 0 < den) (j : Nat) :
    ((m * den : Nat) - num : Int).natAbs ≤ ((j * den : Nat) - num : Int).natAbs ∧
    (((j * den : Nat) - num : Int).natAbs = ((m * den : Nat) - num : Int).natAbs → j ≠ m → m % 2 = 0) := by
  obtain ⟨upper, lower, tie⟩ := rounds
  rcases lt_trichotomy j m with less | rfl | greater
  · have gap : (j + 1) * den ≤ m * den := Nat.mul_le_mul_right den less
    rw [Nat.succ_mul] at gap
    omega
  · exact ⟨le_rfl, fun _ differ => absurd rfl differ⟩
  · have gap : (m + 1) * den ≤ j * den := Nat.mul_le_mul_right den greater
    rw [Nat.succ_mul] at gap
    omega

end

/-! ## The exponent -/

/-- A comparison of `den * 2^a` and `num * 2^b` depends on the difference of the exponents alone. -/
theorem mul_two_pow_le_iff (num den : Nat) {a b x y : Nat} (same : (a : Int) - b = x - y) :
    den * 2 ^ a ≤ num * 2 ^ b ↔ den * 2 ^ x ≤ num * 2 ^ y := by
  have scale : ∀ x y t : Nat, den * 2 ^ (x + t) ≤ num * 2 ^ (y + t) ↔ den * 2 ^ x ≤ num * 2 ^ y := by
    intro x y t
    rw [pow_add, pow_add, ← mul_assoc, ← mul_assoc]
    exact Nat.mul_le_mul_right_iff (Nat.two_pow_pos t)
  rw [← scale a b x, ← scale x y a, Nat.add_comm x a, show y + a = b + x by omega]

theorem mul_two_pow_lt_two_pow_log2 (num b : Nat) : num * 2 ^ b < 2 ^ (num.log2 + 1 + b) := by
  rw [pow_add]
  exact Nat.mul_lt_mul_of_pos_right Nat.lt_log2_self (Nat.two_pow_pos b)

theorem two_pow_log2_le_mul_two_pow {num : Nat} (pos : num ≠ 0) (b : Nat) : 2 ^ (num.log2 + b) ≤ num * 2 ^ b := by
  rw [pow_add]
  exact Nat.mul_le_mul_right _ (Nat.log2_self_le pos)

/-- `2^E ≤ num / den < 2^(E+1)`, with the exponent `E` split into a difference of naturals. -/
theorem floorLog2_bounds {num den : Nat} (numPos : num ≠ 0) (denPos : den ≠ 0) {a b : Nat}
    (exponent : (a : Int) - b = floorLog2 num den) :
    den * 2 ^ a ≤ num * 2 ^ b ∧ num * 2 ^ b < den * 2 ^ (a + 1) := by
  simp only [floorLog2] at exponent
  split at exponent
  case isTrue reached =>
    have upper : num * 2 ^ b < den * 2 ^ (a + 1) :=
      calc num * 2 ^ b < 2 ^ (num.log2 + 1 + b) := mul_two_pow_lt_two_pow_log2 num b
        _ = 2 ^ (den.log2 + (a + 1)) := by congr 1; omega
        _ ≤ den * 2 ^ (a + 1) := two_pow_log2_le_mul_two_pow denPos (a + 1)
    exact ⟨(mul_two_pow_le_iff num den (by omega)).2 reached, upper⟩
  case isFalse missed =>
    have lower : den * 2 ^ a ≤ num * 2 ^ b :=
      calc den * 2 ^ a ≤ 2 ^ (den.log2 + 1 + a) := (mul_two_pow_lt_two_pow_log2 den a).le
        _ = 2 ^ (num.log2 + b) := by congr 1; omega
        _ ≤ num * 2 ^ b := two_pow_log2_le_mul_two_pow numPos b
    exact ⟨lower, not_le.1 fun h => missed ((mul_two_pow_le_iff num den (by omega)).1 h)⟩

/-! ## The significand and its exponent -/

/-- The significand `m` and the exponent `k`, of a unit of `2^k`, that stand for `num / den`: the significand is rounded,
and below 24 bits only at the exponent 0 of the subnormals. -/
structure Significand (num den k m : Nat) : Prop where
  rounds : RoundsTo m (num * 2 ^ 149) (den * 2 ^ k)
  short : num * 2 ^ 149 < 2 ^ 24 * (den * 2 ^ k)
  normal : k = 0 ∨ 2 ^ 23 * (den * 2 ^ k) ≤ num * 2 ^ 149

/-- The model's exponent, from the least normal one up, is the exponent of a significand. -/
theorem floorLog2_significand {num den k : Nat} (numPos : num ≠ 0) (denPos : den ≠ 0)
    (exponent : (k : Int) = max (floorLog2 num den) (-126) + 126) :
    num * 2 ^ 149 < 2 ^ 24 * (den * 2 ^ k) ∧ (k = 0 ∨ 2 ^ 23 * (den * 2 ^ k) ≤ num * 2 ^ 149) := by
  rcases le_or_gt (-126) (floorLog2 num den) with normal | subnormal
  · obtain ⟨lower, upper⟩ := floorLog2_bounds numPos denPos (a := k + 23) (b := 149) (by omega)
    rw [pow_add, ← mul_assoc] at lower
    rw [add_assoc, pow_add, ← mul_assoc] at upper
    omega
  · obtain rfl : k = 0 := by omega
    obtain ⟨-, upper⟩ := floorLog2_bounds numPos denPos (a := 0) (b := (-floorLog2 num den).toNat) (by omega)
    have small : num * 2 ^ 127 ≤ num * 2 ^ (-floorLog2 num den).toNat :=
      Nat.mul_le_mul_left num (Nat.pow_le_pow_right (by decide) (by omega))
    omega

/-- The arguments of the model's rounding, in units of `2^-149`. -/
theorem roundNearestEven_units (num den k : Nat) :
    roundNearestEven (num * 2 ^ (149 - k)) (den * 2 ^ (k - 149)) = roundNearestEven (num * 2 ^ 149) (den * 2 ^ k) := by
  rw [← roundNearestEven_mul_right _ _ (Nat.two_pow_pos (min k 149)), mul_assoc, mul_assoc, ← pow_add, ← pow_add]
  congr 3 <;> omega

/-- The bit that the sign sets. -/
def signBit (negative : Bool) : Nat := if negative then 2 ^ 31 else 0

/-- What `RNE32` writes: the sign, the exponent and the significand, up to the infinity. -/
theorem rne32_eq (negative : Bool) (num : Nat) {den : Nat} (pos : 0 < den) :
    ∃ k m, Significand num den k m ∧
      rne32 negative num den = BitVec.ofNat 32 (signBit negative + min (k * 2 ^ 23 + m) 0x7F800000) := by
  by_cases zero : num = 0
  · subst zero
    refine ⟨0, 0, ⟨?_, by omega, .inl rfl⟩, rfl⟩
    simp [RoundsTo]
  · obtain ⟨k, exponent⟩ := Int.eq_ofNat_of_zero_le (a := max (floorLog2 num den) (-126) + 126) (by omega)
    obtain ⟨short, normal⟩ := floorLog2_significand zero pos.ne' exponent.symm
    refine ⟨k, _, ⟨roundsTo_roundNearestEven _ (Nat.mul_pos pos (Nat.two_pow_pos k)), short, normal⟩, ?_⟩
    have unit : max (floorLog2 num den) (-126) - 23 = (k : Int) - 149 := by omega
    have up : (-((k : Int) - 149)).toNat = 149 - k := by omega
    have down : ((k : Int) - 149).toNat = k - 149 := by omega
    simp only [rne32, if_neg zero, unit, exponent, up, down, Int.toNat_natCast, roundNearestEven_units]
    rfl

section
variable {num den k m : Nat}

theorem Significand.unit_pos (_ : Significand num den k m) (pos : 0 < den) : 0 < den * 2 ^ k :=
  Nat.mul_pos pos (Nat.two_pow_pos k)

theorem Significand.le (sig : Significand num den k m) (pos : 0 < den) : m ≤ 2 ^ 24 :=
  sig.rounds.le_of_le_mul (sig.unit_pos pos) sig.short.le

theorem Significand.ge (sig : Significand num den k m) (pos : 0 < den) : k = 0 ∨ 2 ^ 23 ≤ m :=
  sig.normal.imp_right (sig.rounds.le_of_mul_le (sig.unit_pos pos))

/-- Below the threshold the exponent and the significand are a finite number's. -/
theorem Significand.finite_of_lt (sig : Significand num den k m) (pos : 0 < den)
    (below : num < (2 ^ 128 - 2 ^ 103) * den) : k * 2 ^ 23 + m < 0x7F800000 := by
  have le := sig.le pos
  have exponent : k ≤ 253 := by
    by_contra! large
    have unit : den * 2 ^ 254 ≤ den * 2 ^ k := Nat.mul_le_mul_left den (Nat.pow_le_pow_right (by decide) large)
    have normal := sig.normal
    omega
  rcases exponent.lt_or_eq with small | rfl
  · omega
  · obtain ⟨upper, -, tie⟩ := sig.rounds
    have short : m < 2 ^ 24 := by
      by_contra! long
      have : 2 ^ 24 * (den * 2 ^ 253) ≤ m * (den * 2 ^ 253) := Nat.mul_le_mul_right _ long
      omega
    omega

/-- From the threshold on they are past every finite number's. -/
theorem Significand.infinite_of_ge (sig : Significand num den k m) (pos : 0 < den)
    (reached : (2 ^ 128 - 2 ^ 103) * den ≤ num) : 0x7F800000 ≤ k * 2 ^ 23 + m := by
  have short := sig.short
  have exponent : 253 ≤ k := by
    by_contra! small
    have : den * 2 ^ k ≤ den * 2 ^ 252 := Nat.mul_le_mul_left den (Nat.pow_le_pow_right (by decide) (by omega))
    omega
  have ge := sig.ge pos
  rcases exponent.lt_or_eq with large | rfl
  · omega
  · obtain ⟨-, lower, tie⟩ := sig.rounds
    have almost : 2 ^ 24 - 1 ≤ m := by
      by_contra! less
      have : m * (den * 2 ^ 253) ≤ (2 ^ 24 - 2) * (den * 2 ^ 253) := Nat.mul_le_mul_right _ (by omega)
      omega
    -- The last significand is odd, so half a unit above it rounds up.
    have rounded : m ≠ 2 ^ 24 - 1 := by
      rintro rfl
      omega
    omega

/-- No number that the 24-bit significands reach is nearer: one with a smaller exponent lies below the binade of the
quotient, and the others are multiples of `2^k`. -/
theorem Significand.nearest (sig : Significand num den k m) (pos : 0 < den) {v : Nat}
    (reached : v < 2 ^ 23 * 2 ^ k ∨ 2 ^ k ∣ v) :
    ((m * 2 ^ k * den : Nat) - (num * 2 ^ 149 : Nat) : Int).natAbs ≤
      ((v * den : Nat) - (num * 2 ^ 149 : Nat) : Int).natAbs ∧
    (((v * den : Nat) - (num * 2 ^ 149 : Nat) : Int).natAbs =
      ((m * 2 ^ k * den : Nat) - (num * 2 ^ 149 : Nat) : Int).natAbs → v ≠ m * 2 ^ k → m % 2 = 0) := by
  have nearest := sig.rounds.nearest (sig.unit_pos pos)
  have multiple : ∀ j, j * 2 ^ k * den = j * (den * 2 ^ k) := fun j => by rw [mul_assoc, mul_comm den]
  rcases reached with below | ⟨j, rfl⟩
  · rcases sig.normal with rfl | normal
    · simpa using nearest v
    · have less : v * den < 2 ^ 23 * (den * 2 ^ k) := by
        rw [← multiple]
        exact Nat.mul_lt_mul_of_pos_right below pos
      obtain ⟨closest, -⟩ := nearest (2 ^ 23)
      rw [multiple]
      omega
  · obtain ⟨closest, tie⟩ := nearest j
    rw [mul_comm (2 ^ k) j, multiple, multiple]
    exact ⟨closest, fun equal differ => tie equal fun same => differ (congrArg (· * 2 ^ k) same)⟩

end

/-! ## Patterns -/

@[simp] theorem signBit_false : signBit false = 0 := rfl
@[simp] theorem signBit_true : signBit true = 2 ^ 31 := rfl

section
variable (negative : Bool) {bits : Nat} (bound : bits < 2 ^ 31)
include bound

theorem pattern_toNat : (BitVec.ofNat 32 (signBit negative + bits)).toNat = signBit negative + bits := by
  rw [BitVec.toNat_ofNat, Nat.mod_eq_of_lt]
  cases negative with
  | false => rw [signBit_false]; omega
  | true => rw [signBit_true]; omega

theorem pattern_sign : (BitVec.ofNat 32 (signBit negative + bits)).getLsbD 31 = negative := by
  rw [BitVec.getLsbD, pattern_toNat negative bound, Nat.testBit_eq_decide_div_mod_eq]
  cases negative with
  | false => rw [signBit_false, decide_eq_false_iff_not]; omega
  | true => rw [signBit_true, decide_eq_true_eq]; omega

theorem pattern_lastBit : (BitVec.ofNat 32 (signBit negative + bits)).getLsbD 0 = decide (bits % 2 = 1) := by
  rw [BitVec.getLsbD, pattern_toNat negative bound, Nat.testBit_eq_decide_div_mod_eq]
  refine decide_eq_decide.2 ?_
  cases negative with
  | false => rw [signBit_false]; omega
  | true => rw [signBit_true]; omega

theorem pattern_exponent :
    ((BitVec.ofNat 32 (signBit negative + bits)).extractLsb' 23 8).toNat = bits / 2 ^ 23 := by
  rw [BitVec.extractLsb'_toNat, pattern_toNat negative bound, Nat.shiftRight_eq_div_pow]
  cases negative with
  | false => rw [signBit_false]; omega
  | true => rw [signBit_true]; omega

theorem pattern_fraction :
    ((BitVec.ofNat 32 (signBit negative + bits)).extractLsb' 0 23).toNat = bits % 2 ^ 23 := by
  rw [BitVec.extractLsb'_toNat, pattern_toNat negative bound, Nat.shiftRight_zero]
  cases negative with
  | false => rw [signBit_false]; omega
  | true => rw [signBit_true]; omega

end

/-- What the bits of a significand and its exponent stand for: a significand of 24 bits carries its leading one into the
exponent's field, and one that was rounded up to 2^24 is the next binade's first. -/
theorem magnitude32_pattern (negative : Bool) {k m : Nat} (le : m ≤ 2 ^ 24) (ge : k = 0 ∨ 2 ^ 23 ≤ m)
    (bound : k * 2 ^ 23 + m < 2 ^ 31) :
    magnitude32 (BitVec.ofNat 32 (signBit negative + (k * 2 ^ 23 + m))) = m * 2 ^ k := by
  simp only [magnitude32, pattern_exponent negative bound, pattern_fraction negative bound]
  rcases lt_or_ge m (2 ^ 23) with subnormal | normal
  · obtain rfl : k = 0 := by omega
    rw [if_pos (by omega)]
    omega
  · rw [if_neg (by omega)]
    rcases le.lt_or_eq with short | rfl
    · rw [show (k * 2 ^ 23 + m) / 2 ^ 23 - 1 = k by omega, show (k * 2 ^ 23 + m) % 2 ^ 23 + 2 ^ 23 = m by omega]
    · rw [show (k * 2 ^ 23 + 2 ^ 24) / 2 ^ 23 - 1 = k + 1 by omega,
        show (k * 2 ^ 23 + 2 ^ 24) % 2 ^ 23 + 2 ^ 23 = 2 ^ 23 by omega, pow_succ]
      omega

theorem magnitude32_le (f : F32) :
    magnitude32 f ≤ (2 ^ 24 - 1) * 2 ^ ((f.extractLsb' 23 8).toNat - 1) := by
  have fraction := (f.extractLsb' 0 23).isLt
  unfold magnitude32
  dsimp only
  split
  case isTrue zero =>
    rw [zero]
    omega
  case isFalse normal => exact Nat.mul_le_mul_right _ (by omega)

/-- The numbers from `2^(k+23)` on are multiples of `2^k`. -/
theorem magnitude32_lt_or_dvd (f : F32) (k : Nat) : magnitude32 f < 2 ^ 23 * 2 ^ k ∨ 2 ^ k ∣ magnitude32 f := by
  have le := magnitude32_le f
  rcases lt_or_ge ((f.extractLsb' 23 8).toNat - 1) k with small | large
  · left
    have unit : 2 ^ ((f.extractLsb' 23 8).toNat - 1 + 1) ≤ 2 ^ k := Nat.pow_le_pow_right (by decide) small
    rw [pow_succ] at unit
    have := Nat.two_pow_pos ((f.extractLsb' 23 8).toNat - 1)
    omega
  · right
    unfold magnitude32
    dsimp only
    split
    case isTrue zero =>
      obtain rfl : k = 0 := by omega
      exact one_dvd _
    case isFalse normal => exact Dvd.dvd.mul_left (Nat.pow_dvd_pow 2 large) _

theorem finite32_iff (f : F32) : finite32 f ↔ (f.extractLsb' 23 8).toNat ≠ 255 :=
  not_congr BitVec.toNat_eq

/-- Every finite number lies below the overflow threshold. -/
theorem magnitude32_lt_of_finite {f : F32} (finite : finite32 f) : magnitude32 f < (2 ^ 128 - 2 ^ 103) * 2 ^ 149 := by
  have exponent := (f.extractLsb' 23 8).isLt
  have notAll := (finite32_iff f).1 finite
  have unit : 2 ^ ((f.extractLsb' 23 8).toNat - 1) ≤ 2 ^ 253 := Nat.pow_le_pow_right (by decide) (by omega)
  have le := magnitude32_le f
  omega

/-! ## `RNE32` -/

theorem floatDistance_eq (f : F32) (num den : Nat) :
    floatDistance f num den = ((magnitude32 f * den : Nat) - (num * 2 ^ 149 : Nat) : Int).natAbs := by
  rw [floatDistance]
  push_cast
  rfl

/-- Below the threshold the pattern is the significand's with its exponent. -/
theorem rne32_eq_of_lt (negative : Bool) {num den : Nat} (pos : 0 < den) (below : num < (2 ^ 128 - 2 ^ 103) * den) :
    ∃ k m, Significand num den k m ∧ k * 2 ^ 23 + m < 0x7F800000 ∧
      rne32 negative num den = BitVec.ofNat 32 (signBit negative + (k * 2 ^ 23 + m)) := by
  obtain ⟨k, m, sig, eq⟩ := rne32_eq negative num pos
  have finite := sig.finite_of_lt pos below
  rw [Nat.min_eq_left finite.le] at eq
  exact ⟨k, m, sig, finite, eq⟩

theorem rne32_nearestEven (negative : Bool) {num den : Nat} (pos : 0 < den)
    (below : num < (2 ^ 128 - 2 ^ 103) * den) : NearestEven (rne32 negative num den) negative num den := by
  obtain ⟨k, m, sig, finite, eq⟩ := rne32_eq_of_lt negative pos below
  have bound : k * 2 ^ 23 + m < 2 ^ 31 := by omega
  have magnitude := magnitude32_pattern negative (sig.le pos) (sig.ge pos) bound
  rw [eq]
  refine ⟨(finite32_iff _).2 ?_, pattern_sign negative bound, fun g _ => ?_⟩
  · rw [pattern_exponent negative bound]
    omega
  · obtain ⟨closest, tie⟩ := sig.nearest pos (magnitude32_lt_or_dvd g k)
    rw [floatDistance_eq, floatDistance_eq, magnitude]
    refine ⟨closest, fun equal differ => ?_⟩
    have even := tie equal differ
    rw [pattern_lastBit negative bound, decide_eq_false_iff_not]
    omega

theorem rne32_infinite (negative : Bool) {num den : Nat} (pos : 0 < den) (reached : (2 ^ 128 - 2 ^ 103) * den ≤ num) :
    rne32 negative num den = if negative then 0xFF800000 else 0x7F800000 := by
  obtain ⟨k, m, sig, eq⟩ := rne32_eq negative num pos
  rw [eq, Nat.min_eq_right (sig.infinite_of_ge pos reached)]
  cases negative with
  | false => rfl
  | true => rfl

/-- Settles O46: below the threshold the pattern stands for the rounded significand, from it on it is the infinity's. -/
theorem floatRoundsToNearestEven : Obligations.FloatRoundsToNearestEven :=
  fun negative _ _ pos => ⟨rne32_nearestEven negative pos, rne32_infinite negative pos⟩

/-! ## The conversions of integers -/

/-- The unit of an integer's significand divides the integer: 24 bits hold it. -/
theorem Significand.unit_dvd {num k m : Nat} (sig : Significand num 1 k m) (short : num ≤ 2 ^ 24) :
    2 ^ k ∣ num * 2 ^ 149 := by
  rcases le_or_gt k 149 with small | large
  · exact Dvd.dvd.mul_left (Nat.pow_dvd_pow 2 small) num
  · have normal := sig.normal
    have unit : 2 ^ 150 ≤ 2 ^ k := Nat.pow_le_pow_right (by decide) large
    obtain rfl : num = 2 ^ 24 := by omega
    obtain rfl : k = 150 := by
      by_contra! other
      have : 2 ^ 151 ≤ 2 ^ k := Nat.pow_le_pow_right (by decide) (by omega)
      omega
    decide

theorem magnitude32_rne32_of_le (negative : Bool) {num : Nat} (short : num ≤ 2 ^ 24) :
    magnitude32 (rne32 negative num 1) = num * 2 ^ 149 := by
  obtain ⟨k, m, sig, finite, eq⟩ := rne32_eq_of_lt negative Nat.one_pos (num := num) (by omega)
  rw [eq, magnitude32_pattern negative (sig.le Nat.one_pos) (sig.ge Nat.one_pos) (by omega)]
  obtain ⟨j, multiple⟩ := sig.unit_dvd short
  rw [sig.rounds.eq_of_eq_mul (sig.unit_pos Nat.one_pos) (j := j) (by rw [multiple, Nat.one_mul, mul_comm]), multiple,
    mul_comm]

theorem intToFloat_nearestEven {x : Int} (small : x.natAbs < 2 ^ 128 - 2 ^ 103) :
    NearestEven (intToFloat x) (decide (x < 0)) x.natAbs 1 :=
  rne32_nearestEven _ Nat.one_pos (by omega)

/-- Settles O47: the significand is the integer's own. -/
theorem floatExactUpTo24Bits : Obligations.FloatExactUpTo24Bits := by
  intro x short
  obtain ⟨-, sign, -⟩ := intToFloat_nearestEven (x := x) (by omega)
  exact ⟨magnitude32_rne32_of_le _ short, sign⟩

theorem toInt_natAbs_lt (x : S64) : x.toInt.natAbs < 2 ^ 128 - 2 ^ 103 := by
  have lower := x.le_toInt
  have upper := x.toInt_lt
  omega

/-- Settles O58: both roundings are `RNE32`'s, of an integer and of a finite number's hundredth. -/
theorem floatConvDividesByHundred : Obligations.FloatConvDividesByHundred := by
  intro p x standard
  have rounded := intToFloat_nearestEven (toInt_natAbs_lt x)
  refine ⟨intToFloat x.toInt, rounded, ?_⟩
  obtain ⟨finite, sign, -⟩ := rounded
  have magnitude := magnitude32_lt_of_finite finite
  have conv : floatConv p x = divHundred (intToFloat x.toInt) := by rw [floatConv, standard]
  rw [conv, divHundred, sign]
  exact rne32_nearestEven _ (by decide) (by omega)

end Sys2Proof.Proofs
end

section
/-! The sequencer's rows of R89 and what the block does at each (43_sequencer.md R88, R96 to R100): acceptance of the
host's words, the transaction of each sensor command with either answer, and the delays. -/

namespace Sys2Proof.Proofs

open Sys2Proof Sys2Proof.Machine Sys2Proof.Laws

/-! ## The decoded instruction -/

/-- Settles O5: with the reset input released a step is the block's own, which runs what is decoded. -/
theorem stepRunsDecodedInstruction : Obligations.StepRunsDecodedInstruction := by
  constructor
  · intro s b later i released idle moves word
    exact (step_of_not_reset released).trans (coreStep_issue (s := sampled s) idle moves word)
  · intro s c i released busy action command
    exact (step_of_not_reset released).trans (coreStep_bus (s := sampled s) busy action command)

/-! ## Acceptance -/

/-- Settles O12: the two words of INIT differ in the address alone. -/
theorem initAccepted : Obligations.InitAccepted := fun s idle =>
  ⟨(acceptInit_eq_next false s _).2 ⟨idle, rfl⟩, (acceptInit_eq_next true s _).2 ⟨idle, rfl⟩⟩

theorem acceptWhenReady_ready {s : State} (start : Regs → Regs) (idle : s.regs.busy = false)
    (ready : s.regs.mode = .ready) : acceptWhenReady start s = .next (onRegs start s) :=
  (acceptWhenReady_eq_next start s _).2 ⟨idle, .inl ⟨ready, rfl⟩⟩

/-- Settles O13: RESET is accepted in `READY` with its own opening writes. -/
theorem resetAccepted : Obligations.ResetAccepted := fun _ idle ready =>
  acceptWhenReady_ready startReset idle ready

/-- Settles O14: each level's instruction is the acceptance with the level's index. -/
theorem readSampleAccepted : Obligations.ReadSampleAccepted := by
  intro p level s idle ready
  have accepted := acceptWhenReady_ready (startReadSample p.2) idle ready
  simp only [List.mem_cons, List.not_mem_nil, or_false] at level
  rcases level with rfl | rfl | rfl | rfl | rfl <;> exact accepted

/-! ## The rows -/

theorem currentAction_initRead (p : Params) {r : Regs} (k : Fin 8) (op : r.op = .init) (upc : r.upc.toNat = k) :
    currentAction p r = .ok (.bus (promCommand k)) := by
  have before := k.isLt
  interval_cases row : k.val <;> simp [currentAction, op, upc]

theorem currentAction_resetWrite (p : Params) {r : Regs} (op : r.op = .reset) (upc : r.upc = 0) :
    currentAction p r = .ok (.bus resetCommand) := by
  simp [currentAction, op, upc]

theorem currentAction_resetDelay (p : Params) {r : Regs} (op : r.op = .reset) (upc : r.upc = 1) :
    currentAction p r = .ok (.delay p.resetDelayMs) := by
  simp [currentAction, op, upc]

theorem currentAction_readPressure (p : Params) {r : Regs} {e : OsrEntry} (op : r.op = .readSample) (upc : r.upc = 0)
    (latched : osrLookup r.osri = .ok e) : currentAction p r = .ok (.bus (pressureCommand e)) := by
  simp [currentAction, op, upc, latched, Except.map]

theorem currentAction_readTemperature (p : Params) {r : Regs} {e : OsrEntry} (op : r.op = .readSample)
    (upc : r.upc = 3) (latched : osrLookup r.osri = .ok e) :
    currentAction p r = .ok (.bus (temperatureCommand e)) := by
  simp [currentAction, op, upc, latched, Except.map]

theorem currentAction_readDelay (p : Params) {r : Regs} {e : OsrEntry} (op : r.op = .readSample)
    (upc : r.upc = 1 ∨ r.upc = 4) (latched : osrLookup r.osri = .ok e) :
    currentAction p r = .ok (.delay e.wait) := by
  rcases upc with upc | upc <;> simp [currentAction, op, upc, latched, Except.map]

theorem currentAction_readAdc (p : Params) {r : Regs} (op : r.op = .readSample) (upc : r.upc = 2 ∨ r.upc = 5) :
    currentAction p r = .ok (.bus adcReadCommand) := by
  rcases upc with upc | upc <;> simp [currentAction, op, upc]

/-! ## A sensor command at its row -/

/-- At the step that emits an instruction's byte, the instruction's meaning is the block's move. -/
theorem exec_of_coreMove {s t : State} {c : Byte} {i : Instr} (busy : s.regs.busy = true)
    (action : currentAction s.params s.regs = .ok (.bus c)) (command : decodeBus c = .ok i) (move : CoreMove s t) :
    exec i s = .next t :=
  (coreStep_bus busy action command).symm.trans (coreStep_of_coreMove move)

/-- A write command at its row, on either answer (R90): the next row, or TransportError. -/
theorem exec_writeCommand {s : State} {a c : Byte} {i : Instr} {n : U4} (busy : s.regs.busy = true)
    (action : currentAction s.params s.regs = .ok (.bus c)) (command : decodeBus c = .ok i)
    (length : responseLength c = 0) (address : s.regs.devAddr = some a) (next : s.regs.upc + 1 = n) :
    exec i s = .next (match nextAnswer s with
      | .ok _ _ _ => { dropAnswer s with
          regs := { s.regs with upc := n }
          trace := s.trace ++ [.write a c (.ok [])] }
      | .err e => { dropAnswer s with
          regs := { s.regs with status := .errTransport, errInfo := some e, errCmd := some c, op := .none, upc := 0,
                                busy := false }
          hostLog := s.hostLog ++ [.response .errTransport]
          trace := s.trace ++ [.write a c (.err e)] }) := by
  subst next
  rw [exec_of_coreMove busy action command (.write c a busy action ⟨i, command⟩ length address)]
  cases answer : nextAnswer s with
  | ok b0 b1 b2 => simp [writeCommand_ok c a s b0 b1 b2 answer, onRegs, emit, advance]
  | err e =>
    simp [writeCommand_err c a s e answer, raise, tellHost, onRegs, emit, raiseRegs, errorStatus, errorInfo, errorCmd]

/-- Settles O17: RESET step 0 is the row of the write command 0x1E. -/
theorem cmdResetRuns : Obligations.CmdResetRuns := fun s _ busy op upc address =>
  exec_writeCommand busy (currentAction_resetWrite s.params op upc) (by decide) (by decide) address (by simp [upc])

/-- Settles O18: at each level the row's byte is the table's. -/
theorem cmdConvD1Runs : Obligations.CmdConvD1Runs := by
  have rows : ∀ p ∈ [(Instr.cmdConvD1Osr256, (0 : U3), (0x40 : Byte)), (Instr.cmdConvD1Osr512, 1, 0x42),
      (Instr.cmdConvD1Osr1024, 2, 0x44), (Instr.cmdConvD1Osr2048, 3, 0x46), (Instr.cmdConvD1Osr4096, 4, 0x48)],
      (osrEntry p.2.1).map pressureCommand = some p.2.2 ∧ decodeBus p.2.2 = .ok p.1 ∧
        responseLength p.2.2 = 0 := by decide
  intro p level s a busy op upc osri address
  obtain ⟨byte, command, length⟩ := rows p level
  obtain ⟨e, entry, byte⟩ := Option.map_eq_some_iff.1 byte
  have action := currentAction_readPressure s.params op upc ((osrLookup_eq_ok _ _).2 ⟨_, osri, entry⟩)
  exact exec_writeCommand busy (byte ▸ action) command length address (by simp [upc])

/-- Settles O19: at each level the row's byte is the table's. -/
theorem cmdConvD2Runs : Obligations.CmdConvD2Runs := by
  have rows : ∀ p ∈ [(Instr.cmdConvD2Osr256, (0 : U3), (0x50 : Byte)), (Instr.cmdConvD2Osr512, 1, 0x52),
      (Instr.cmdConvD2Osr1024, 2, 0x54), (Instr.cmdConvD2Osr2048, 3, 0x56), (Instr.cmdConvD2Osr4096, 4, 0x58)],
      (osrEntry p.2.1).map temperatureCommand = some p.2.2 ∧ decodeBus p.2.2 = .ok p.1 ∧
        responseLength p.2.2 = 0 := by decide
  intro p level s a busy op upc osri address
  obtain ⟨byte, command, length⟩ := rows p level
  obtain ⟨e, entry, byte⟩ := Option.map_eq_some_iff.1 byte
  have action := currentAction_readTemperature s.params op upc ((osrLookup_eq_ok _ _).2 ⟨_, osri, entry⟩)
  exact exec_writeCommand busy (byte ▸ action) command length address (by simp [upc])

/-- The state in which a read of `n` bytes by the command `c` leaves the block when it fails (R90, R106), `mode` being
the mode it leaves. -/
def readFailed (a c : Byte) (n : Nat) (mode : Mode) (e : TErr) (s : State) : State :=
  { dropAnswer s with
    regs := { s.regs with mode := mode, status := .errTransport, errInfo := some e, errCmd := some c, op := .none,
                          upc := 0, busy := false }
    hostLog := s.hostLog ++ [.response .errTransport]
    trace := s.trace ++ [.writeRead a c n (.err e)] }

theorem adcRead_failed {a : Byte} {s : State} {e : TErr} (answer : nextAnswer s = .err e) :
    adcRead a s = readFailed a adcReadCommand 3 s.regs.mode e s := by
  simp [adcRead_err a s e answer, readFailed, raise, tellHost, onRegs, emit, raiseRegs, errorStatus, errorInfo,
    errorCmd]

theorem promRead_failed {k : Fin 8} {a : Byte} {s : State} {e : TErr} (answer : nextAnswer s = .err e) :
    promRead k a s = readFailed a (promCommand k) 2 .failed e s := by
  simp [promRead_err k a s e answer, readFailed, raise, tellHost, onRegs, emit, raiseRegs, errorStatus, errorInfo,
    errorCmd, markFailed]

/-- Settles O20: the row's number says which of `D1` and `D2` takes the bytes. -/
theorem cmdAdcReadRuns : Obligations.CmdAdcReadRuns := by
  intro s a busy op address
  have runs (upc : s.regs.upc = 2 ∨ s.regs.upc = 5) : exec .cmdAdcRead s = .next (adcRead a s) := by
    have action := currentAction_readAdc s.params op upc
    exact exec_of_coreMove busy action (by decide) (.adcRead a busy action address)
  refine ⟨fun upc => (runs (.inl upc)).trans ?_, fun upc => (runs (.inr upc)).trans ?_⟩
  · cases answer : nextAnswer s with
    | ok b0 b1 b2 =>
      simp [adcRead_ok a s b0 b1 b2 answer, onRegs, emit, putRaw_pressure _ s.regs upc, advance, upc, rawValue,
        adcReadCommand]
    | err e => rw [adcRead_failed answer]; rfl
  · cases answer : nextAnswer s with
    | ok b0 b1 b2 =>
      simp [adcRead_ok a s b0 b1 b2 answer, onRegs, emit, putRaw_temperature _ s.regs (by simp [upc]), advance, upc,
        rawValue, adcReadCommand]
    | err e => rw [adcRead_failed answer]; rfl

/-- Settles O21: the byte of word `k` is the row's at INIT step `k`. -/
theorem cmdPromReadRuns : Obligations.CmdPromReadRuns := by
  have rows : ∀ p ∈ [(Instr.cmdPromRead0, (0 : Fin 8), (0xA0 : Byte)), (Instr.cmdPromRead1, 1, 0xA2),
      (Instr.cmdPromRead2, 2, 0xA4), (Instr.cmdPromRead3, 3, 0xA6), (Instr.cmdPromRead4, 4, 0xA8),
      (Instr.cmdPromRead5, 5, 0xAA), (Instr.cmdPromRead6, 6, 0xAC), (Instr.cmdPromRead7, 7, 0xAE)],
      p.2.2 = promCommand p.2.1 ∧ decodeBus p.2.2 = .ok p.1 := by decide
  rintro ⟨i, k, c⟩ row s a busy op upc address
  obtain ⟨byte, command⟩ := rows _ row
  obtain rfl : c = promCommand k := byte
  have action := currentAction_initRead s.params k op upc
  refine (exec_of_coreMove busy action command (.promRead k a busy action address)).trans ?_
  cases answer : nextAnswer s with
  | ok b0 b1 b2 => simp [promRead_ok k a s b0 b1 b2 answer, onRegs, emit, putWord, advance, promWord]
  | err e => rw [promRead_failed answer]; rfl

/-! ## The delays -/

/-- Settles O23: each row's delay is the block's move, which ends RESET and goes on in READ_SAMPLE. -/
theorem delaySteps : Obligations.DelaySteps := by
  intro s released busy
  have delayed {ms : Byte} (action : currentAction s.params s.regs = .ok (.delay ms)) :
      step s = .next (delayStep ms (sampled s)) :=
    (step_eq_next s _).2 (.inr ⟨released, .delay (s := sampled s) ms busy action⟩)
  refine ⟨fun op upc => ?_, fun p level op osri => ?_⟩
  · rw [delayed (currentAction_resetDelay s.params op upc), delayStep_reset _ (sampled s) op]
    rfl
  · have waits : ∀ p ∈ [((0 : U3), (1 : Byte)), (1, 2), (2, 3), (3, 5), (4, 10)],
        (osrEntry p.1).map (·.wait) = some p.2 := List.forall_iff_forall_mem.1 (by decide)
    obtain ⟨e, entry, wait⟩ := Option.map_eq_some_iff.1 (waits p level)
    have goesOn (upc : s.regs.upc = 1 ∨ s.regs.upc = 4) :
        step s = .next (onRegs advance (delayFor p.2 (sampled s))) := by
      have action := currentAction_readDelay s.params op upc ((osrLookup_eq_ok _ _).2 ⟨_, osri, entry⟩)
      rw [delayed action, wait, delayStep_other _ (sampled s) (by simp [sampled, op])]
    refine ⟨fun upc => (goesOn (.inl upc)).trans ?_, fun upc => (goesOn (.inr upc)).trans ?_⟩ <;>
      simp [onRegs, delayFor, emit, advance, sampled, upc]

end Sys2Proof.Proofs
end

section
/-! Placing a table word where the block fetches its next instruction (log entry 7): a host word becomes the host's next
move, and a sensor command's placement puts the sequencer at the row that emits the command's byte. -/

namespace Sys2Proof.Proofs

open Sys2Proof Sys2Proof.Machine Sys2Proof.Laws

/-! ## The reset input -/

theorem releaseReset_regs (s : State) : (releaseReset s).regs = s.regs := by
  unfold releaseReset; split <;> rfl

theorem releaseReset_hostMoves (s : State) : (releaseReset s).hostMoves = s.hostMoves := by
  unfold releaseReset; split <;> rfl

theorem releaseReset_trace (s : State) : (releaseReset s).trace = s.trace := by
  unfold releaseReset; split <;> rfl

theorem releaseReset_answers (s : State) : (releaseReset s).answers = s.answers := by
  unfold releaseReset; split <;> rfl

theorem releaseReset_released (s : State) : (releaseReset s).resetLine.head? ≠ some true := by
  unfold releaseReset
  split
  · simp
  next other =>
    intro asserted
    obtain ⟨rest, line⟩ := List.head?_eq_some_iff.1 asserted
    exact other rest line

/-! ## The row of a sensor command -/

/-- A placement leaves the agents around the block as they are, and the block at a row with an address to send to. -/
structure PlacedAt (s t : State) (c : Byte) : Prop where
  hostMoves : t.hostMoves = s.hostMoves
  trace : t.trace = s.trace
  answers : t.answers = s.answers
  resetLine : t.resetLine = s.resetLine
  busy : t.regs.busy = true
  address : ∃ a, t.regs.devAddr = some a
  action : currentAction t.params t.regs = .ok (.bus c)

theorem placedAt_placeAt {s : State} {op : Op} {n : U4} {c : Byte}
    (action : currentAction (placeAt op n s).params (placeAt op n s).regs = .ok (.bus c)) :
    PlacedAt s (placeAt op n s) c :=
  ⟨rfl, rfl, rfl, rfl, rfl, ⟨_, rfl⟩, action⟩

theorem placedAt_placeRead {s : State} {n : U4} {i : U3} {c : Byte}
    (action : currentAction (placeRead n i s).params (placeRead n i s).regs = .ok (.bus c)) :
    PlacedAt s (placeRead n i s) c :=
  ⟨rfl, rfl, rfl, rfl, rfl, ⟨_, rfl⟩, action⟩

theorem joinBus_prom : ∀ k : U3, promCommand k.toNat = joinBus (.prom k) := by decide

/-- The row at which a sensor command is placed emits the command's byte. -/
theorem placedAt_placeSensorCommand (s : State) {f : BusFields} (legal : f.wf = true) :
    PlacedAt s (placeSensorCommand f s) (joinBus f) := by
  cases f with
  | fixed c =>
    by_cases reset : c = resetCommand
    · subst reset
      exact placedAt_placeAt (currentAction_resetWrite _ rfl rfl)
    · have fixedByte : c = 0x1E ∨ c = 0x00 := by simpa [BusFields.wf] using legal
      obtain rfl : c = adcReadCommand := fixedByte.resolve_left reset
      by_cases second : s.regs.op = .readSample ∧ s.regs.upc = 5
      · simp only [placeSensorCommand, reset, second, and_self, if_true, if_false]
        exact placedAt_placeAt (currentAction_readAdc _ rfl (.inr rfl))
      · simp only [placeSensorCommand, reset, second, if_false]
        exact placedAt_placeAt (currentAction_readAdc _ rfl (.inl rfl))
  | conv temperature i =>
    obtain ⟨e, entry, -⟩ := osrEntry_of_wf i legal
    have latched : osrLookup (some i) = .ok e := (osrLookup_eq_ok _ _).2 ⟨i, rfl, entry⟩
    obtain ⟨pressureByte, temperatureByte⟩ := command_of_osrEntry i e entry
    cases temperature with
    | false => exact pressureByte ▸ placedAt_placeRead (currentAction_readPressure _ rfl rfl latched)
    | true => exact temperatureByte ▸ placedAt_placeRead (currentAction_readTemperature _ rfl rfl latched)
  | prom k =>
    have upc : (k.setWidth 4 : U4).toNat = k.toNat := by simp; omega
    exact joinBus_prom k ▸ placedAt_placeAt (currentAction_initRead _ ⟨k.toNat, k.isLt⟩ rfl upc)

/-! ## The step after a placement -/

/-- The fields of a sensor command are an encoding, and the splitter reads them back from the command's byte. -/
theorem splitBus_encode {i : Instr} {f : BusFields} (format : fieldsOf i = .bus f) :
    f.wf = true ∧ splitBus (encode i) = some f := by
  cases i
  case init77 | init76 | reset | readSampleOsr256 | readSampleOsr512 | readSampleOsr1024 | readSampleOsr2048
      | readSampleOsr4096 => cases format
  all_goals
    cases format
    decide

theorem withFetchWord_encode (s : State) (i : Instr) : s.withFetchWord 8 (encode i).toNat = placeByte (encode i) s := by
  rw [State.withFetchWord, Nat.mod_eq_of_lt (encode i).isLt, BitVec.ofNat_toNat, BitVec.setWidth_eq]

theorem placeByte_host {s : State} {i : Instr} {b : Byte} (word : decodeHost b = .ok i) :
    placeByte b s = placeHostWord b (releaseReset s) := by
  simp [placeByte, word]

theorem placeByte_bus {s : State} {i : Instr} {f : BusFields} (format : fieldsOf i = .bus f) :
    placeByte (encode i) s = placeSensorCommand f (releaseReset s) := by
  have command := decodeBus_encode format
  obtain ⟨r, reserved⟩ := decodeHost_of_decodeBus command
  obtain ⟨-, fields⟩ := splitBus_encode format
  simp [placeByte, command, reserved, fields]

/-- A sensor command completes at the row that emits its byte. -/
theorem exec_completes {s : State} {c a : Byte} {i : Instr} (command : decodeBus c = .ok i)
    (busy : s.regs.busy = true) (action : currentAction s.params s.regs = .ok (.bus c))
    (address : s.regs.devAddr = some a) : ∃ t, exec i s = .next t := by
  rcases exec_sensorCommand c i command s with ⟨-, meaning⟩ | ⟨-, meaning⟩ | ⟨k, -, meaning⟩ <;>
    exact ⟨_, meaning.trans (emitCommand_at_step _ busy action address)⟩

/-- Settles O11: a host word is the host's next move and is taken out again; a sensor command is at its row. -/
theorem placedWordRuns : Obligations.PlacedWordRuns := by
  intro i s
  rw [withFetchWord_encode]
  have released := releaseReset_released s
  cases format : fieldsOf i with
  | host f =>
    have word := decodeHost_encode format
    rw [placeByte_host word]
    have placed : step (placeHostWord (encode i) (releaseReset s)) = exec i _ :=
      (step_of_not_reset (s := placeHostWord _ _) released).trans (coreStep_issue (s := sampled _) rfl rfl word)
    refine ⟨_, ?moves, ?trace, ?answers, placed, nofun⟩
    case moves => exact releaseReset_hostMoves s
    case trace => exact releaseReset_trace s
    case answers => exact releaseReset_answers s
  | bus f =>
    obtain ⟨legal, -⟩ := splitBus_encode format
    have command := decodeBus_encode format
    have byte : encode i = joinBus f := by rw [encode, format]
    obtain ⟨moves, trace, answers, line, busy, ⟨a, address⟩, action⟩ :=
      placedAt_placeSensorCommand (releaseReset s) legal
    rw [← byte] at action
    rw [placeByte_bus format]
    rw [← line] at released
    exact ⟨sampled (placeSensorCommand f (releaseReset s)), moves.trans (releaseReset_hostMoves s),
      trace.trans (releaseReset_trace s), answers.trans (releaseReset_answers s),
      (step_of_not_reset released).trans (coreStep_bus (s := sampled _) busy action command),
      fun _ => exec_completes (s := sampled _) command busy action address⟩

end Sys2Proof.Proofs
end

section
/-! The `MODE` transition relation (43_sequencer.md R95) and the end of a READ_SAMPLE at its first failing transaction
(R90, R94): the block has one move in a state, so the row of the state names the move. -/

namespace Sys2Proof.Proofs

open Sys2Proof Sys2Proof.Machine Sys2Proof.Laws

/-- The block has at most one move in a state. -/
theorem coreMove_unique {s t u : State} (first : CoreMove s t) (second : CoreMove s u) : t = u :=
  Host.Outcome.next.inj ((coreStep_of_coreMove first).symm.trans (coreStep_of_coreMove second))

/-! ## `MODE` -/

@[simp] theorem writeCommand_mode (c a : Byte) (s : State) : (writeCommand c a s).regs.mode = s.regs.mode := by
  cases h : nextAnswer s with
  | ok b0 b1 b2 => simp [writeCommand_ok c a s b0 b1 b2 h]
  | err e => simp [writeCommand_err c a s e h]

@[simp] theorem adcRead_mode (a : Byte) (s : State) : (adcRead a s).regs.mode = s.regs.mode := by
  cases h : nextAnswer s with
  | ok b0 b1 b2 => simp [adcRead_ok a s b0 b1 b2 h]
  | err e => simp [adcRead_err a s e h]

@[simp] theorem delayStep_mode (ms : Byte) (s : State) : (delayStep ms s).regs.mode = s.regs.mode := by
  by_cases h : s.regs.op = .reset
  · simp [delayStep_reset ms s h]
  · simp [delayStep_other ms s h]

/-- An accepted INIT leaves the block in `UNINIT`. -/
theorem coreMove_mode_of_acceptsInit {s t : State} (accepts : acceptsInit s) (move : CoreMove s t) :
    t.regs.mode = .uninit := by
  obtain ⟨idle, word⟩ := accepts
  have accepted : ∃ a0 later, s.hostMoves = .issue (joinHost ⟨1, 0, BitVec.ofBool a0⟩) :: later := by
    rcases word with word | word <;> obtain ⟨later, moves⟩ := List.head?_eq_some_iff.1 word
    · exact ⟨false, later, moves⟩
    · exact ⟨true, later, moves⟩
  obtain ⟨a0, later, moves⟩ := accepted
  rw [coreMove_unique move (.init a0 later idle moves)]
  rfl

/-- INIT's check leaves the block in `READY` or in `FAILED`, with its outcome. -/
theorem coreMove_mode_of_check {s t : State} (op : s.regs.op = .init) (upc : s.regs.upc = 8)
    (busy : s.regs.busy = true) (inv : RegsInv s.regs) (move : CoreMove s t) :
    (t.regs.mode = .ready ∧ t.regs.status = .ok) ∨ (t.regs.mode = .failed ∧ t.regs.status = .errChecksum) := by
  have action := currentAction_initCheck s.params op upc
  obtain ⟨-, -, read⟩ := inv.initStep op
  obtain ⟨w, words⟩ := promWords_of_valued fun k => read k (by simp [upc])
  by_cases nibbles : crc4 w = storedNibble w
  · rw [coreMove_unique move (.accept w busy action words nibbles)]
    exact .inl ⟨rfl, rfl⟩
  · rw [coreMove_unique move (.reject w busy action words nibbles)]
    exact .inr ⟨rfl, rfl⟩

/-- A PROM step of INIT goes on in `UNINIT` or ends in `FAILED`. -/
theorem coreMove_mode_of_promStep {s t : State} (op : s.regs.op = .init) (upc : s.regs.upc ≠ 8)
    (busy : s.regs.busy = true) (inv : RegsInv s.regs) (move : CoreMove s t) :
    (t.regs.mode = .uninit ∧ t.regs.busy = true) ∨ (t.regs.mode = .failed ∧ t.regs.status = .errTransport) := by
  obtain ⟨uninit, last, -⟩ := inv.initStep op
  have small : s.regs.upc.toNat < 8 := by bv_omega
  have action := currentAction_initRead s.params ⟨_, small⟩ op rfl
  obtain ⟨a, address⟩ := Option.ne_none_iff_exists'.1 (inv.addressed (.inl busy))
  rw [coreMove_unique move (.promRead _ a busy action address)]
  cases answer : nextAnswer s with
  | ok b0 b1 b2 =>
    rw [promRead_ok _ a s b0 b1 b2 answer]
    exact .inl (by simp [uninit, busy])
  | err e =>
    rw [promRead_failed answer]
    exact .inr ⟨rfl, rfl⟩

/-- Any other move keeps `MODE`. -/
theorem coreMove_mode_of_other {s t : State} (refuses : ¬ acceptsInit s)
    (other : ¬ (s.regs.busy = true ∧ s.regs.op = .init)) (move : CoreMove s t) : t.regs.mode = s.regs.mode := by
  cases move with
  | init a0 later idle moves => exact absurd (acceptsInit_of_moves idle moves) refuses
  | promRead k a busy action => exact absurd ⟨busy, (currentAction_promRead _ _ k action).1⟩ other
  | accept _ busy action | reject _ busy action =>
    exact absurd ⟨busy, (currentAction_crcCheck _ _ action).1⟩ other
  | write c a => exact writeCommand_mode c a s
  | adcRead a => exact adcRead_mode a s
  | delay ms => exact delayStep_mode ms s
  | rest | reset | readSample | notReady | illegal | hostRead | compensate => rfl

/-- Settles O51: the block reset gives `UNINIT`, and each kind of move follows its clause of R95. -/
theorem modeTransitions : Obligations.ModeTransitions := by
  intro s t inv h
  rcases (step_eq_next s t).1 h with ⟨asserted, rfl⟩ | ⟨released, move⟩
  · exact ⟨fun _ => rfl, fun no => absurd asserted no, fun no => absurd asserted no, fun no => absurd asserted no,
      fun no => absurd asserted no⟩
  · exact ⟨fun asserted => absurd asserted released,
      fun _ accepts => coreMove_mode_of_acceptsInit (s := sampled s) accepts move,
      fun _ busy op upc => coreMove_mode_of_check (s := sampled s) op upc busy inv move,
      fun _ busy op upc => coreMove_mode_of_promStep (s := sampled s) op upc busy inv move,
      fun _ refuses other => coreMove_mode_of_other (s := sampled s) refuses other move⟩

/-! ## The first failing transaction -/

/-- A failing transaction of READ_SAMPLE is one event and the trap, with no register written in between. -/
theorem coreMove_of_failedTransaction {s t : State} {e : TErr} (busy : s.regs.busy = true)
    (op : s.regs.op = .readSample) (row : s.regs.upc ∈ ([0, 2, 3, 5] : List U4)) (answer : nextAnswer s = .err e)
    (move : CoreMove s t) : ∃ c ev, t = raise (.transport e c) (emit ev (dropAnswer s)) := by
  cases move with
  | rest idle | init _ _ idle | reset _ idle | readSample _ _ idle | notReady _ _ idle | illegal _ _ idle
  | hostRead _ _ _ _ idle => exact absurd (busy.symm.trans idle) (by decide)
  | write c a => exact ⟨c, _, writeCommand_err c a s e answer⟩
  | adcRead a => exact ⟨adcReadCommand, _, adcRead_err a s e answer⟩
  | promRead k _ _ action => simp [(currentAction_promRead _ _ k action).1] at op
  | accept _ _ action | reject _ _ action => simp [(currentAction_crcCheck _ _ action).1] at op
  | delay ms _ action =>
    rcases currentAction_delay _ _ ms action with ⟨other, -⟩ | ⟨-, upc | upc, -⟩
    · simp [other] at op
    · simp [upc] at row
    · simp [upc] at row
  | compensate _ _ _ _ action => simp [(currentAction_compensate _ _ action).2] at row

/-- Settles O33: the trap leaves the block idle, and the invariant says that no sample was valid. -/
theorem readSampleStopsAtTransportError : Obligations.ReadSampleStopsAtTransportError := by
  intro s t e inv released busy op row answer h
  obtain ⟨asserted, -⟩ | ⟨-, move⟩ := (step_eq_next s t).1 h
  · exact absurd asserted released
  · obtain ⟨c, ev, rfl⟩ := coreMove_of_failedTransaction (s := sampled s) busy op row answer move
    obtain ⟨-, -, -, noSample, -⟩ := inv.readStep op
    simp [sampled, errorStatus, errorInfo, noSample]

end Sys2Proof.Proofs
end

section
/-! Whole operations (43_sequencer.md R91 to R94): the runs of INIT, RESET and READ_SAMPLE from the host's word to the
response. A READ_SAMPLE is acceptance, two conversions of three rows each, and the compensation; an INIT is acceptance,
as many PROM reads as are answered, and the row that ends it. -/

namespace Sys2Proof.Proofs

open Sys2Proof Sys2Proof.Machine Sys2Proof.Laws

/-! ## Runs -/

theorem run_zero {s t : State} (same : s = t) : Host.Core.run Sys2Proof.core 0 s = .next t :=
  congrArg _ same

theorem run_succ {M : Host.Core} {s t : M.State} (first : M.step s = .next t) (n : Nat) :
    M.run (n + 1) s = M.run n t := by
  rw [Host.Core.run, first]

/-- A run of at least one step begins with a step that goes on. -/
theorem step_of_run {M : Host.Core} {n : Nat} {s u : M.State} (run : M.run (n + 1) s = .next u) :
    ∃ t, M.step s = .next t ∧ M.run n t = .next u := by
  cases first : M.step s with
  | next t => exact ⟨t, rfl, run_succ first n ▸ run⟩
  | fault r => simp [Host.Core.run, first] at run
  | refused r => simp [Host.Core.run, first] at run

theorem run_cons {n : Nat} {s t u : State} (first : step s = .next t)
    (later : Host.Core.run Sys2Proof.core n t = .next u) : Host.Core.run Sys2Proof.core (n + 1) s = .next u :=
  (run_succ (M := Sys2Proof.core) first n).trans later

theorem run_append {M : Host.Core} {m n : Nat} {s t u : M.State} (first : M.run m s = .next t)
    (later : M.run n t = .next u) : M.run (m + n) s = .next u := by
  induction m generalizing s with
  | zero =>
    obtain rfl : s = t := Host.Outcome.next.inj first
    rwa [Nat.zero_add]
  | succ m ih =>
    obtain ⟨r, one, first⟩ := step_of_run first
    rw [Nat.succ_add, run_succ one]
    exact ih first

/-- Where the reset input is not asserted again, a move of the block is the step. -/
theorem step_of_coreMove {s t : State} (line : s.resetLine = []) (move : CoreMove s t) : step s = .next t := by
  have noSample : s.resetLine.tail = s.resetLine := by rw [line, List.tail_nil]
  have same : sampled s = s := by rw [sampled, noSample]
  exact (step_eq_next s t).2 (.inr ⟨by simp [line], same.symm ▸ move⟩)

/-! ## The rows with their answer -/

theorem step_write {s : State} {a c b0 b1 b2 : Byte} {rest : List BusAnswer} (line : s.resetLine = [])
    (busy : s.regs.busy = true) (action : currentAction s.params s.regs = .ok (.bus c)) (length : responseLength c = 0)
    (address : s.regs.devAddr = some a) (answers : s.answers = .ok b0 b1 b2 :: rest) :
    step s = .next (onRegs advance (emit (.write a c (.ok [])) { s with answers := rest })) := by
  rw [step_of_coreMove line (.write c a busy action (decodeBus_of_currentAction action) length address),
    writeCommand_ok c a s b0 b1 b2 (nextAnswer_cons s _ _ answers), dropAnswer_cons s _ _ answers]

theorem step_adcRead {s : State} {a b0 b1 b2 : Byte} {rest : List BusAnswer} (line : s.resetLine = [])
    (busy : s.regs.busy = true) (action : currentAction s.params s.regs = .ok (.bus adcReadCommand))
    (address : s.regs.devAddr = some a) (answers : s.answers = .ok b0 b1 b2 :: rest) :
    step s = .next (onRegs (fun r => advance (putRaw (rawValue b0 b1 b2) r))
      (emit (.writeRead a adcReadCommand 3 (.ok [b0, b1, b2])) { s with answers := rest })) := by
  rw [step_of_coreMove line (.adcRead a busy action address),
    adcRead_ok a s b0 b1 b2 (nextAnswer_cons s _ _ answers), dropAnswer_cons s _ _ answers]

theorem step_delay {s : State} {ms : Byte} (line : s.resetLine = []) (busy : s.regs.busy = true)
    (action : currentAction s.params s.regs = .ok (.delay ms)) (op : s.regs.op ≠ .reset) :
    step s = .next (onRegs advance (delayFor ms s)) := by
  rw [step_of_coreMove line (.delay ms busy action), delayStep_other ms s op]

/-! ## RESET -/

/-- Settles O31: the three moves are the acceptance, the write and the delay that ends the operation. -/
theorem resetRunsToItsEnd : Obligations.ResetRunsToItsEnd := by
  intro s a b0 b1 b2 later rest line idle ready address moves answers
  refine run_cons (step_of_coreMove line (.reset later idle ready moves)) ?_
  refine run_cons (step_write line rfl (currentAction_resetWrite _ rfl rfl) (by decide) address answers) ?_
  refine run_cons (step_of_coreMove line (.delay s.params.resetDelayMs rfl (currentAction_resetDelay _ rfl rfl))) ?_
  rw [delayStep_reset _ _ rfl]
  refine run_zero ?_
  simp [doneOk, tellHost, delayFor, emit, onRegs, advance, startReset, doneRegs, resetCommand]

/-! ## READ_SAMPLE -/

theorem responseLength_conversion : ∀ e ∈ osrRom,
    responseLength (pressureCommand e) = 0 ∧ responseLength (temperatureCommand e) = 0 := by decide

/-- The three rows of one conversion, READ_SAMPLE steps 0 to 2 and 3 to 5, with their answers. -/
theorem run_conversion {s : State} {a c x0 x1 x2 b0 b1 b2 : Byte} {e : OsrEntry} {rest : List BusAnswer}
    (line : s.resetLine = []) (busy : s.regs.busy = true) (op : s.regs.op = .readSample)
    (address : s.regs.devAddr = some a) (latched : osrLookup s.regs.osri = .ok e)
    (row : (s.regs.upc = 0 ∧ c = pressureCommand e) ∨ (s.regs.upc = 3 ∧ c = temperatureCommand e))
    (answers : s.answers = .ok x0 x1 x2 :: .ok b0 b1 b2 :: rest) :
    Host.Core.run Sys2Proof.core 3 s = .next { s with
      regs := advance (putRaw (rawValue b0 b1 b2) (advance (advance s.regs)))
      answers := rest
      trace := s.trace ++ [.write a c (.ok []), .delay e.wait, .writeRead a adcReadCommand 3 (.ok [b0, b1, b2])] } := by
  obtain ⟨i, -, entry⟩ := (osrLookup_eq_ok _ _).1 latched
  obtain ⟨pressure, temperature⟩ := responseLength_conversion e (List.mem_of_getElem? entry)
  have action : currentAction s.params s.regs = .ok (.bus c) ∧ responseLength c = 0 := by
    rcases row with ⟨upc, rfl⟩ | ⟨upc, rfl⟩
    · exact ⟨currentAction_readPressure _ op upc latched, pressure⟩
    · exact ⟨currentAction_readTemperature _ op upc latched, temperature⟩
  have waits : s.regs.upc + 1 = 1 ∨ s.regs.upc + 1 = 4 := by
    rcases row with ⟨upc, -⟩ | ⟨upc, -⟩ <;> simp [upc]
  have reads : s.regs.upc + 1 + 1 = 2 ∨ s.regs.upc + 1 + 1 = 5 := by
    rcases row with ⟨upc, -⟩ | ⟨upc, -⟩ <;> simp [upc]
  obtain ⟨action, length⟩ := action
  refine run_cons (step_write line busy action length address answers) ?_
  refine run_cons (step_delay line busy (currentAction_readDelay _ op waits latched) (by simp [op])) ?_
  refine run_cons (step_adcRead line busy (currentAction_readAdc _ op reads) address rfl) ?_
  refine run_zero ?_
  simp [delayFor, emit, onRegs]

/-- Settles O32: the two conversions are the same three rows, the first with `D1` and the second with `D2`. -/
theorem readSampleRunsToItsEnd : Obligations.ReadSampleRunsToItsEnd := by
  have rows : ∀ p ∈ [((0x30 : Byte), (0 : U3), (1 : Byte), (0 : Byte)), (0x32, 1, 2, 2), (0x34, 2, 3, 4),
      (0x36, 3, 5, 6), (0x38, 4, 10, 8)], p.1 = joinHost ⟨3, p.2.1, 0⟩ ∧ osrIndexWf p.2.1 = true ∧
      osrEntry p.2.1 = some ⟨p.2.2.1, p.2.2.2⟩ := List.forall_iff_forall_mem.1 (by decide)
  rintro ⟨b, n, wait, offset⟩ level s a b0 b1 b2 c0 c1 c2 x0 x1 x2 y0 y1 y2 cal later rest line idle ready address
    calibrated moves answers
  obtain ⟨word, legal, entry⟩ := rows _ level
  have latched : osrLookup (some n) = .ok ⟨wait, offset⟩ := (osrLookup_eq_ok _ _).2 ⟨n, rfl, entry⟩
  refine run_cons (step_of_coreMove line (.readSample n later idle ready legal (word ▸ moves))) ?_
  refine run_append (m := 3) (n := 4) (run_conversion line rfl rfl address latched (.inl ⟨rfl, rfl⟩) answers) ?_
  refine run_append (m := 3) (n := 1) (run_conversion line rfl rfl address latched (.inr ⟨rfl, rfl⟩) rfl) ?_
  refine run_cons (step_of_coreMove line (.compensate _ _ cal rfl (currentAction_readCompensate _ rfl rfl) rfl rfl
    calibrated)) ?_
  refine run_zero ?_
  simp [doneOk, tellHost, onRegs, advance, startReadSample, doneRegs, putRaw, putSample, outputsOf, rawValue,
    pressureCommand, temperatureCommand, adcReadCommand, -BitVec.toInt_setWidth]

/-! ## INIT -/

/-- The transport's answer that gives PROM word `k`, with a third byte that the read leaves. -/
def promAnswer (w : PromWords) (x : Vector Byte 8) (k : Fin 8) : BusAnswer := .ok (hiByte w[k]) (loByte w[k]) x[k]

/-- The event of the read that gave PROM word `k`. -/
def promEvent (a : Byte) (w : PromWords) (k : Fin 8) : Event :=
  .writeRead a (promCommand k) 2 (.ok [hiByte w[k], loByte w[k]])

/-- The loader buffer once the words before `n` are read into it. -/
def wordsRead (w : PromWords) (n : Nat) (buffer : Vector (Option U16) 8) : Vector (Option U16) 8 :=
  Vector.ofFn fun j => if j.val < n then some w[j] else buffer[j]

theorem wordsRead_zero (w : PromWords) (buffer : Vector (Option U16) 8) : wordsRead w 0 buffer = buffer := by
  ext j small
  simp [wordsRead]

theorem wordsRead_all (w : PromWords) (buffer : Vector (Option U16) 8) : wordsRead w 8 buffer = w.map some := by
  ext j small
  simp [wordsRead]

theorem set_wordsRead (w : PromWords) (n : Nat) (small : n < 8) (buffer : Vector (Option U16) 8) :
    (wordsRead w n buffer).set n (some w[n]) = wordsRead w (n + 1) buffer := by
  refine Vector.ext fun j inside => ?_
  rcases lt_trichotomy n j with before | rfl | after
  · simp [wordsRead, before.ne, before.not_gt, before.not_ge]
  · simp [wordsRead]
  · simp [wordsRead, after.ne', after, after.le]

theorem promWord_bytes (v : U16) : promWord (hiByte v) (loByte v) = v := by
  refine BitVec.eq_of_toNat_eq ?_
  rw [promWord_toNat]
  simp only [hiByte, loByte, BitVec.extractLsb'_toNat]
  omega

theorem take_finRange_succ : ∀ k : Fin 8,
    (List.finRange 8).take (k + 1) = (List.finRange 8).take k ++ [k] := by decide

/-- The block after the PROM words before `n` are read, from INIT step 0. -/
def afterPromReads (a : Byte) (w : PromWords) (n : Nat) (rest : List BusAnswer) (s : State) : State :=
  { s with
    regs := { s.regs with w := wordsRead w n s.regs.w, upc := BitVec.ofNat 4 n }
    answers := rest
    trace := s.trace ++ ((List.finRange 8).take n).map (promEvent a w) }

/-- The read of word `k` goes from the words before `k` to the words before `k + 1`. -/
theorem step_afterPromReads {s : State} {a : Byte} {w : PromWords} {x : Vector Byte 8} {rest : List BusAnswer}
    (k : Fin 8) (line : s.resetLine = []) (busy : s.regs.busy = true) (op : s.regs.op = .init)
    (address : s.regs.devAddr = some a) :
    step (afterPromReads a w k (promAnswer w x k :: rest) s) = .next (afterPromReads a w (k + 1) rest s) := by
  have upc : (BitVec.ofNat 4 k.val).toNat = k := Nat.mod_eq_of_lt (k.isLt.trans (by decide))
  have move := CoreMove.promRead (s := afterPromReads a w k (promAnswer w x k :: rest) s) k a busy
    (currentAction_initRead _ k op upc) address
  rw [step_of_coreMove (s := afterPromReads _ _ _ _ _) line move, promRead_ok k a _ _ _ _ (nextAnswer_cons _ _ _ rfl),
    dropAnswer_cons _ _ _ rfl, promWord_bytes]
  simp [afterPromReads, onRegs, emit, putWord, advance, set_wordsRead, take_finRange_succ, promEvent, BitVec.ofNat_add]

theorem run_promReads {s : State} {a : Byte} {w : PromWords} {x : Vector Byte 8} {n : Nat} (most : n ≤ 8)
    (line : s.resetLine = []) (busy : s.regs.busy = true) (op : s.regs.op = .init) (upc : s.regs.upc = 0)
    (address : s.regs.devAddr = some a) {rest : List BusAnswer}
    (answers : s.answers = ((List.finRange 8).take n).map (promAnswer w x) ++ rest) :
    Host.Core.run Sys2Proof.core n s = .next (afterPromReads a w n rest s) := by
  induction n generalizing rest with
  | zero =>
    refine run_zero ?_
    have answers : s.answers = rest := by simpa using answers
    have upc : s.regs.upc = BitVec.ofNat 4 0 := upc
    rw [afterPromReads, wordsRead_zero, ← upc, ← answers]
    simp
  | succ n ih =>
    have split : s.answers =
        ((List.finRange 8).take n).map (promAnswer w x) ++ promAnswer w x ⟨n, most⟩ :: rest := by
      rw [answers, take_finRange_succ ⟨n, most⟩]
      simp
    exact run_append (ih (by omega) split)
      (run_cons (step_afterPromReads ⟨n, most⟩ line busy op address) (run_zero rfl))

theorem initWord (a0 : Bool) : (if a0 then 0x11 else 0x10 : Byte) = joinHost ⟨1, 0, BitVec.ofBool a0⟩ := by
  cases a0 <;> rfl

/-- Settles O29: acceptance, the eight reads, and the check on the words they gave. -/
theorem initRunsToItsEnd : Obligations.InitRunsToItsEnd := by
  intro s a0 w x later rest line idle moves answers
  refine run_cons (step_of_coreMove line (.init a0 later idle (initWord a0 ▸ moves))) ?_
  have reads := run_promReads (s := onRegs (startInit a0) { s with hostMoves := later }) (le_refl 8) line rfl rfl rfl
    rfl answers
  refine run_append (n := 1) reads ?_
  have words : wordsRead w 8 s.regs.w = w.map some := wordsRead_all w s.regs.w
  by_cases nibbles : crc4 w = storedNibble w
  · refine run_cons (step_of_coreMove line (.accept w rfl (currentAction_initCheck _ rfl rfl) words nibbles))
      (run_zero ?_)
    have agree : crc4 w = loNibble w[7] := nibbles
    simp only [if_pos agree]
    rw [← dropOuterWords_map w, ← words]
    rfl
  · refine run_cons (step_of_coreMove line (.reject w rfl (currentAction_initCheck _ rfl rfl) words nibbles))
      (run_zero ?_)
    have differ : crc4 w ≠ loNibble w[7] := nibbles
    simp only [if_neg differ]
    rw [← words]
    rfl

/-- Settles O30: acceptance, the reads before `k`, and the failing read. -/
theorem initStopsAtTransportError : Obligations.InitStopsAtTransportError := by
  intro s a0 k w x e later rest line idle moves answers
  refine run_cons (step_of_coreMove line (.init a0 later idle (initWord a0 ▸ moves))) ?_
  have reads := run_promReads (s := onRegs (startInit a0) { s with hostMoves := later }) k.isLt.le line rfl rfl rfl
    rfl answers
  refine run_append (n := 1) reads ?_
  have upc : (BitVec.ofNat 4 k.val).toNat = k := Nat.mod_eq_of_lt (k.isLt.trans (by decide))
  refine run_cons (step_of_coreMove line (.promRead k _ rfl (currentAction_initRead _ k rfl upc) rfl)) (run_zero ?_)
  rw [promRead_failed (nextAnswer_cons _ _ _ rfl), readFailed, dropAnswer_cons _ _ _ rfl]
  rfl

end Sys2Proof.Proofs
end

section
/-! The end of an operation and the idle block (60_exceptions.md R101 to R117): what the two ends write, the codes the
host reads, the refusal out of `READY`, and the rest of a block that is not busy. -/

namespace Sys2Proof.Proofs

open Sys2Proof Sys2Proof.Machine Sys2Proof.Laws

/-! ## The idle block -/

/-- Settles O8: resting is the move of an idle block without a host move. -/
theorem idleKeepsState : Obligations.IdleKeepsState := fun s released idle moves =>
  (step_eq_next s _).2 (.inr ⟨released, .rest (s := sampled s) idle moves⟩)

/-- Events are made by a busy block only (R110). -/
theorem step_trace_of_idle {s t : State} (idle : s.regs.busy = false) (h : step s = .next t) : t.trace = s.trace := by
  rcases oneAllowedEventPerStep s t h with same | ⟨_, -, busy, -⟩
  · exact same
  · exact absurd (busy.symm.trans idle) (by decide)

/-! ## The two ends of an operation -/

/-- Settles O26: the error kind picks the record's values alone, and each leaves the block idle. -/
theorem raiseEndsOperation : Obligations.RaiseEndsOperation := by
  refine ⟨fun s e c => rfl, fun p kind s => ?_, fun k s t h => ?_⟩
  · simp only [List.mem_cons, List.not_mem_nil, or_false] at kind
    rcases kind with rfl | rfl | rfl <;> rfl
  · have idle : (raise k s).regs.busy = false := by simp
    exact (step_trace_of_idle idle h).trans (raise_trace k s)

/-- Settles O27: the end with success is one update of the registers and one response. -/
theorem doneEndsOperation : Obligations.DoneEndsOperation := fun _ => rfl

/-! ## The refusal out of `READY` -/

theorem acceptWhenReady_notReady {s : State} (start : Regs → Regs) (idle : s.regs.busy = false)
    (mode : s.regs.mode ≠ .ready) : acceptWhenReady start s = .next (raise .notReady s) :=
  (acceptWhenReady_eq_next start s _).2 ⟨idle, .inr ⟨mode, rfl⟩⟩

/-- Settles O15: each of the six is an acceptance that asks for `READY`, whatever its opening writes. -/
theorem notReadyRefused : Obligations.NotReadyRefused := by
  intro i operation s idle mode
  have refused (start : Regs → Regs) := acceptWhenReady_notReady start idle mode
  simp only [List.mem_cons, List.not_mem_nil, or_false] at operation
  rcases operation with rfl | rfl | rfl | rfl | rfl | rfl <;> exact refused _

/-! ## The codes -/

/-- R101: no code of `STATUS` is 6 to 15. -/
theorem statusCode_lt_six (x : Status) : (statusCode x).toNat < 6 := by
  cases x <;> decide

/-- Settles O28: the codes are the tables of R101 and R11. -/
theorem statusCodes : Obligations.StatusCodes :=
  ⟨rfl, rfl, rfl, rfl, rfl, rfl, statusCode_lt_six, rfl, rfl, rfl⟩

end Sys2Proof.Proofs
end

section
/-! The conversion hazards (70_reset_and_hazards.md R121, R122): what one event more asks of a trace that holds them off,
what a READ_SAMPLE has put at the end of the trace before each of its steps, and that every move of the block keeps
both. -/

namespace Sys2Proof.Proofs

open Sys2Proof Sys2Proof.Machine Sys2Proof.Laws

/-! ## A trace with one event more -/

/-- The trace ends with a conversion command that the address took and the wait of the command's level: what R121 asks
for before an ADC read. -/
def EndsWithWait (tr : List Event) (a : Byte) : Prop :=
  ∃ earlier e c, e ∈ osrRom ∧ (c = pressureCommand e ∨ c = temperatureCommand e) ∧
    tr = earlier ++ [.write a c (.ok []), .delay e.wait]

/-- The trace ends with an ADC read that gave the address's three bytes: what R122 asks for before a temperature
command. -/
def EndsWithValue (tr : List Event) (a : Byte) : Prop :=
  ∃ earlier b0 b1 b2, tr = earlier ++ [.writeRead a adcReadCommand 3 (.ok [b0, b1, b2])]

/-- An event of a trace with one event more is the new one, or stood there before. -/
theorem snoc_eq_append_cons {α : Type} {tr before after : List α} {new x : α}
    (split : tr ++ [new] = before ++ x :: after) :
    (tr = before ∧ new = x) ∨ ∃ rest, tr = before ++ x :: rest := by
  rcases List.eq_nil_or_concat' after with rfl | ⟨rest, last, rfl⟩
  · exact .inl (List.append_singleton_inj.1 split)
  · rw [← List.cons_append, ← List.append_assoc] at split
    exact .inr ⟨rest, (List.append_singleton_inj.1 split).1⟩

theorem readsDelayed_snoc {tr : List Event} {ev : Event} (reads : ReadsDelayed tr)
    (waited : ∀ a n r, ev = .writeRead a adcReadCommand n r → EndsWithWait tr a) : ReadsDelayed (tr ++ [ev]) := by
  intro before a n r after split
  obtain ⟨rfl, new⟩ | ⟨rest, old⟩ := snoc_eq_append_cons split
  · exact waited a n r new
  · exact reads before a n r rest old

theorem temperatureAfterRead_snoc {tr : List Event} {ev : Event} (unread : TemperatureAfterRead tr)
    (read : ∀ a e r, e ∈ osrRom → ev = .write a (temperatureCommand e) r → EndsWithValue tr a) :
    TemperatureAfterRead (tr ++ [ev]) := by
  intro before a e r after member split
  obtain ⟨rfl, new⟩ | ⟨rest, old⟩ := snoc_eq_append_cons split
  · exact read a e r member new
  · exact unread before a e r rest member old

theorem endsAfterConversion_snoc {tr rest : List Event} {a c : Byte} (ends : EndsAfterConversion tr a c rest)
    (ev : Event) : EndsAfterConversion (tr ++ [ev]) a c (rest ++ [ev]) := by
  obtain ⟨earlier, rfl⟩ := ends
  exact ⟨earlier, by simp⟩

theorem endsWithValue_of_endsAfterRead {tr : List Event} {a c : Byte} {e : OsrEntry} {d : Option S32}
    (ends : EndsAfterRead tr a c e d) : EndsWithValue tr a := by
  obtain ⟨b0, b1, b2, -, earlier, rfl⟩ := ends
  exact ⟨earlier ++ [.write a c (.ok []), .delay e.wait], b0, b1, b2, by simp⟩

/-! ## A READ_SAMPLE in progress -/

/-- A READ_SAMPLE runs at the level of the entry and sends to the address. -/
structure Reading (r : Regs) (e : OsrEntry) (a : Byte) : Prop where
  busy : r.busy = true
  op : r.op = .readSample
  level : osrLookup r.osri = .ok e
  address : r.devAddr = some a

/-- What a READ_SAMPLE has put at the end of the trace when it is at its current step. -/
def RowTrace (tr : List Event) (r : Regs) (e : OsrEntry) (a : Byte) : Prop :=
  match r.upc.toNat with
  | 1 => EndsAfterConversion tr a (pressureCommand e) []
  | 2 => EndsAfterConversion tr a (pressureCommand e) [.delay e.wait]
  | 3 => EndsAfterRead tr a (pressureCommand e) e r.d1
  | 4 => EndsAfterConversion tr a (temperatureCommand e) []
  | 5 => EndsAfterConversion tr a (temperatureCommand e) [.delay e.wait]
  | 6 => EndsAfterRead tr a (temperatureCommand e) e r.d2
  | _ => True

theorem hazardInv_iff (s : State) : HazardInv s ↔
    ReadsDelayed s.trace ∧ TemperatureAfterRead s.trace ∧ ∀ e a, Reading s.regs e a → RowTrace s.trace s.regs e a := by
  constructor
  · refine fun inv => ⟨inv.reads, inv.unread, fun e a reading => ?_⟩
    obtain ⟨i, osri, entry⟩ := (osrLookup_eq_ok _ _).1 reading.level
    obtain ⟨row1, row2, row3⟩ := inv.pressure reading.busy reading.op i e a osri entry reading.address
    obtain ⟨row4, row5, row6⟩ := inv.temperature reading.busy reading.op i e a osri entry reading.address
    unfold RowTrace
    split
    case h_1 upc => exact row1 (BitVec.eq_of_toNat_eq upc)
    case h_2 upc => exact row2 (BitVec.eq_of_toNat_eq upc)
    case h_3 upc => exact row3 (BitVec.eq_of_toNat_eq upc)
    case h_4 upc => exact row4 (BitVec.eq_of_toNat_eq upc)
    case h_5 upc => exact row5 (BitVec.eq_of_toNat_eq upc)
    case h_6 upc => exact row6 (BitVec.eq_of_toNat_eq upc)
    case h_7 => trivial
  · rintro ⟨reads, unread, rows⟩
    have row {i e a} (busy : s.regs.busy = true) (op : s.regs.op = .readSample) (osri : s.regs.osri = some i)
        (entry : osrEntry i = some e) (address : s.regs.devAddr = some a) : RowTrace s.trace s.regs e a :=
      rows e a ⟨busy, op, (osrLookup_eq_ok _ _).2 ⟨i, osri, entry⟩, address⟩
    refine ⟨reads, unread, fun busy op i e a osri entry address => ?_, fun busy op i e a osri entry address => ?_⟩
    all_goals
      have here := row busy op osri entry address
      refine ⟨fun upc => ?_, fun upc => ?_, fun upc => ?_⟩ <;> simpa [RowTrace, upc] using here

/-- A READ_SAMPLE in a state of the invariant has its level. -/
theorem reading_of_regsInv {r : Regs} {a : Byte} (inv : RegsInv r) (busy : r.busy = true) (op : r.op = .readSample)
    (address : r.devAddr = some a) : ∃ e, Reading r e a := by
  obtain ⟨-, -, latched, -⟩ := inv.readStep op
  obtain ⟨e, level⟩ := osrLookup_of_legal latched inv.index
  exact ⟨e, busy, op, level, address⟩

theorem not_reading_raiseRegs (k : ErrorKind) (r : Regs) (e : OsrEntry) (a : Byte) : ¬ Reading (raiseRegs k r) e a :=
  fun reading => absurd reading.busy (by simp)

/-- The step index is no part of the level and of the address. -/
theorem reading_of_advance {r : Regs} {e : OsrEntry} {a : Byte} (reading : Reading (advance r) e a) : Reading r e a :=
  ⟨reading.busy, reading.op, reading.level, reading.address⟩

theorem reading_of_putRaw {r : Regs} {v : S32} {e : OsrEntry} {a : Byte} (reading : Reading (putRaw v r) e a) :
    Reading r e a :=
  ⟨putRaw_busy v r ▸ reading.busy, putRaw_op v r ▸ reading.op, putRaw_osri v r ▸ reading.level,
    putRaw_devAddr v r ▸ reading.address⟩

/-- The block sends to one address. -/
theorem address_of_reading {r : Regs} {e : OsrEntry} {a b : Byte} (reading : Reading r e b)
    (address : r.devAddr = some a) : a = b :=
  Option.some.inj (address.symm.trans reading.address)

/-! ## The moves that make an event -/

/-- A move that makes one event keeps the hazards off if the event comes after what R121 and R122 ask for, and if a
READ_SAMPLE then has the right events behind it. -/
theorem hazardInv_snoc {s t : State} {ev : Event} (inv : HazardInv s) (trace : t.trace = s.trace ++ [ev])
    (waited : ∀ a n r, ev = .writeRead a adcReadCommand n r → EndsWithWait s.trace a)
    (read : ∀ a e r, e ∈ osrRom → ev = .write a (temperatureCommand e) r → EndsWithValue s.trace a)
    (row : ∀ e a, Reading t.regs e a → RowTrace (s.trace ++ [ev]) t.regs e a) : HazardInv t := by
  rw [hazardInv_iff, trace]
  exact ⟨readsDelayed_snoc inv.reads waited, temperatureAfterRead_snoc inv.unread read, row⟩

theorem temperatureCommand_apart : ∀ e ∈ osrRom,
    resetCommand ≠ temperatureCommand e ∧ ∀ e' ∈ osrRom, pressureCommand e' ≠ temperatureCommand e := by decide

theorem mem_osrRom_of_osrLookup {o : Option U3} {e : OsrEntry} (level : osrLookup o = .ok e) : e ∈ osrRom := by
  obtain ⟨i, -, entry⟩ := (osrLookup_eq_ok _ _).1 level
  exact List.mem_of_getElem? entry

/-- A READ_SAMPLE writes the pressure command at step 0 and the temperature command at step 3. -/
theorem write_of_reading {p : Params} {r : Regs} {c a : Byte} {e : OsrEntry}
    (action : currentAction p r = .ok (.bus c)) (length : responseLength c = 0) (reading : Reading r e a) :
    (r.upc = 0 ∧ c = pressureCommand e) ∨ (r.upc = 3 ∧ c = temperatureCommand e) := by
  obtain ⟨reset, -⟩ | ⟨-, upc | upc⟩ := currentAction_write action length
  · exact absurd (reset.symm.trans reading.op) nofun
  · have pressure := currentAction_readPressure p reading.op upc reading.level
    exact .inl ⟨upc, by simpa using action.symm.trans pressure⟩
  · have temperature := currentAction_readTemperature p reading.op upc reading.level
    exact .inr ⟨upc, by simpa using action.symm.trans temperature⟩

theorem hazardInv_writeCommand {s : State} {c a : Byte} (regs : RegsInv s.regs) (inv : HazardInv s)
    (busy : s.regs.busy = true) (action : currentAction s.params s.regs = .ok (.bus c)) (length : responseLength c = 0)
    (address : s.regs.devAddr = some a) : HazardInv (writeCommand c a s) := by
  obtain ⟨-, -, rows⟩ := (hazardInv_iff s).1 inv
  refine hazardInv_snoc inv (writeCommand_trace c a s) nofun ?_ ?_
  · rintro _ e r member ⟨⟩
    obtain ⟨op, upc⟩ | ⟨op, -⟩ := currentAction_write action length
    · have reset := currentAction_resetWrite s.params op upc
      exact absurd (by simpa using reset.symm.trans action) (temperatureCommand_apart e member).1
    · obtain ⟨e', reading⟩ := reading_of_regsInv regs busy op address
      obtain ⟨-, pressure⟩ | ⟨upc, -⟩ := write_of_reading action length reading
      · exact absurd pressure.symm ((temperatureCommand_apart e member).2 e' (mem_osrRom_of_osrLookup reading.level))
      · have row := rows e' a reading
        simp only [RowTrace, upc] at row
        exact endsWithValue_of_endsAfterRead row
  · intro e b reading
    cases answer : nextAnswer s with
    | err x =>
      rw [writeCommand_err c a s x answer] at reading
      exact absurd reading (not_reading_raiseRegs _ _ _ _)
    | ok b0 b1 b2 =>
      rw [writeCommand_ok c a s b0 b1 b2 answer] at reading ⊢
      have before : Reading s.regs e b := reading_of_advance (by simpa using reading)
      obtain rfl := address_of_reading before address
      have sent : EndsAfterConversion (s.trace ++ [.write a c (.ok [])]) a c [] := ⟨s.trace, rfl⟩
      obtain ⟨upc, rfl⟩ | ⟨upc, rfl⟩ := write_of_reading action length before <;>
        simpa [RowTrace, upc, answer, busResult] using sent

/-- A delay of a READ_SAMPLE is its level's wait, after a conversion command. -/
theorem hazardInv_delayStep {s : State} {ms : Byte} (inv : HazardInv s)
    (action : currentAction s.params s.regs = .ok (.delay ms)) : HazardInv (delayStep ms s) := by
  obtain ⟨-, -, rows⟩ := (hazardInv_iff s).1 inv
  refine hazardInv_snoc inv (delayStep_trace ms s) nofun nofun fun e a reading => ?_
  by_cases reset : s.regs.op = .reset
  · rw [delayStep_reset ms s reset] at reading
    exact absurd reading.busy nofun
  · rw [delayStep_other ms s reset] at reading ⊢
    have before : Reading s.regs e a := reading_of_advance reading
    have row := rows e a before
    obtain ⟨op, -⟩ | ⟨-, upc, -⟩ := currentAction_delay _ _ ms action
    · exact absurd op reset
    · have wait := currentAction_readDelay s.params before.op upc before.level
      obtain rfl : ms = e.wait := by simpa using action.symm.trans wait
      rcases upc with upc | upc <;> simp only [RowTrace, upc] at row <;>
        simpa [RowTrace, upc] using endsAfterConversion_snoc row (.delay e.wait)

/-- Where a READ_SAMPLE reads the ADC, the command and the wait of the conversion that it reads are behind it. -/
theorem endsAfterConversion_at_adcRead {s : State} {e : OsrEntry} {a : Byte} (inv : HazardInv s)
    (action : currentAction s.params s.regs = .ok (.bus adcReadCommand)) (reading : Reading s.regs e a) :
    (s.regs.upc = 2 ∧ EndsAfterConversion s.trace a (pressureCommand e) [.delay e.wait]) ∨
    (s.regs.upc = 5 ∧ EndsAfterConversion s.trace a (temperatureCommand e) [.delay e.wait]) := by
  obtain ⟨-, -, rows⟩ := (hazardInv_iff s).1 inv
  have row := rows e a reading
  obtain ⟨-, upc | upc⟩ := currentAction_adcRead _ _ action <;> simp only [RowTrace, upc] at row
  · exact .inl ⟨upc, row⟩
  · exact .inr ⟨upc, row⟩

theorem endsAfterRead_snoc {tr : List Event} {a c : Byte} {e : OsrEntry}
    (ends : EndsAfterConversion tr a c [.delay e.wait]) (b0 b1 b2 : Byte) :
    EndsAfterRead (tr ++ [.writeRead a adcReadCommand 3 (.ok [b0, b1, b2])]) a c e (some (rawValue b0 b1 b2)) :=
  ⟨b0, b1, b2, rfl, endsAfterConversion_snoc ends _⟩

theorem hazardInv_adcRead {s : State} {a : Byte} (regs : RegsInv s.regs) (inv : HazardInv s)
    (busy : s.regs.busy = true) (action : currentAction s.params s.regs = .ok (.bus adcReadCommand))
    (address : s.regs.devAddr = some a) : HazardInv (adcRead a s) := by
  refine hazardInv_snoc inv (adcRead_trace a s) ?_ nofun ?_
  · rintro _ _ _ ⟨⟩
    obtain ⟨e, reading⟩ := reading_of_regsInv regs busy (currentAction_adcRead _ _ action).1 address
    have member := mem_osrRom_of_osrLookup reading.level
    obtain ⟨-, earlier, ends⟩ | ⟨-, earlier, ends⟩ := endsAfterConversion_at_adcRead inv action reading
    · exact ⟨earlier, e, _, member, .inl rfl, ends⟩
    · exact ⟨earlier, e, _, member, .inr rfl, ends⟩
  · intro e b reading
    cases answer : nextAnswer s with
    | err x =>
      rw [adcRead_err a s x answer] at reading
      exact absurd reading (not_reading_raiseRegs _ _ _ _)
    | ok b0 b1 b2 =>
      rw [adcRead_ok a s b0 b1 b2 answer] at reading ⊢
      have before : Reading s.regs e b := reading_of_putRaw (reading_of_advance (by simpa using reading))
      obtain rfl := address_of_reading before address
      obtain ⟨upc, ends⟩ | ⟨upc, ends⟩ := endsAfterConversion_at_adcRead inv action before <;>
        simpa [RowTrace, putRaw, upc, answer, busResult] using endsAfterRead_snoc ends b0 b1 b2

/-! ## The moves outside a READ_SAMPLE -/

/-- A block that runs no READ_SAMPLE has no row to answer for. -/
theorem rowTrace_of_not_reading {r : Regs} (other : r.busy = true → r.op ≠ .readSample) {tr : List Event}
    {e : OsrEntry} {a : Byte} (reading : Reading r e a) : RowTrace tr r e a :=
  absurd reading.op (other reading.busy)

theorem hazardInv_of_not_reading {s t : State} (inv : HazardInv s) (trace : t.trace = s.trace)
    (other : t.regs.busy = true → t.regs.op ≠ .readSample) : HazardInv t := by
  rw [hazardInv_iff, trace]
  exact ⟨inv.reads, inv.unread, fun _ _ => rowTrace_of_not_reading other⟩

/-- INIT reads the PROM, not the ADC. -/
theorem hazardInv_promRead {s : State} {k : Fin 8} {a : Byte} (inv : HazardInv s)
    (action : currentAction s.params s.regs = .ok (.bus (promCommand k))) : HazardInv (promRead k a s) := by
  refine hazardInv_snoc inv (promRead_trace k a s) ?_ nofun fun e b => rowTrace_of_not_reading fun _ => ?_
  · intro _ _ _ adc
    injection adc with _ same
    exact absurd same (command_families_apart k).2.1
  · have op := (currentAction_promRead _ _ k action).1
    cases answer : nextAnswer s with
    | ok b0 b1 b2 => simp [promRead_ok k a s b0 b1 b2 answer, op]
    | err x => simp [promRead_err k a s x answer]

/-- A READ_SAMPLE starts at step 0, with nothing to answer for. -/
theorem hazardInv_startReadSample {s : State} (inv : HazardInv s) (n : U3) :
    HazardInv (onRegs (startReadSample n) s) :=
  (hazardInv_iff _).2 ⟨inv.reads, inv.unread, fun _ _ _ => trivial⟩

/-! ## The moves of the block and the machine's step -/

theorem coreMove_hazardInv {s t : State} (regs : RegsInv s.regs) (inv : HazardInv s) (move : CoreMove s t) :
    HazardInv t := by
  cases move with
  | rest => exact inv
  | hostRead _ _ _ _ idle => exact hazardInv_of_not_reading inv rfl (by simp [idle])
  | init | reset => exact hazardInv_of_not_reading inv rfl (by simp)
  | notReady | illegal | accept | reject | compensate => exact hazardInv_of_not_reading inv rfl nofun
  | readSample n later => exact hazardInv_startReadSample (s := { s with hostMoves := later }) { inv with } n
  | write _ _ busy action _ length address => exact hazardInv_writeCommand regs inv busy action length address
  | adcRead _ busy action address => exact hazardInv_adcRead regs inv busy action address
  | promRead _ _ _ action => exact hazardInv_promRead inv action
  | delay _ _ action => exact hazardInv_delayStep inv action

/-- Settles O55: the block reset makes no event and ends any READ_SAMPLE, and every move of the block keeps the hazards
off. -/
theorem stepKeepsReadsDelayed : Obligations.StepKeepsReadsDelayed := by
  intro s t regs inv h
  rcases (step_eq_next s t).1 h with ⟨-, rfl⟩ | ⟨-, move⟩
  · exact hazardInv_of_not_reading inv rfl nofun
  · exact coreMove_hazardInv (s := sampled s) regs { inv with } move

end Sys2Proof.Proofs
end

section
/-! The bound on an operation (70_reset_and_hazards.md R128): each step of the sequencer ends the operation or goes to its
next row; a row makes one event or ends the operation without one, so the rows left that make an event bound both
counts. -/

namespace Sys2Proof.Proofs

open Sys2Proof Sys2Proof.Machine Sys2Proof.Laws

/-! ## The reset input -/

@[simp] theorem writeCommand_resetLine (c a : Byte) (s : State) : (writeCommand c a s).resetLine = s.resetLine := by
  cases h : nextAnswer s with
  | ok b0 b1 b2 => simp [writeCommand_ok c a s b0 b1 b2 h]
  | err e => simp [writeCommand_err c a s e h]

@[simp] theorem adcRead_resetLine (a : Byte) (s : State) : (adcRead a s).resetLine = s.resetLine := by
  cases h : nextAnswer s with
  | ok b0 b1 b2 => simp [adcRead_ok a s b0 b1 b2 h]
  | err e => simp [adcRead_err a s e h]

@[simp] theorem promRead_resetLine (k : Fin 8) (a : Byte) (s : State) : (promRead k a s).resetLine = s.resetLine := by
  cases h : nextAnswer s with
  | ok b0 b1 b2 => simp [promRead_ok k a s b0 b1 b2 h]
  | err e => simp [promRead_err k a s e h]

@[simp] theorem delayStep_resetLine (ms : Byte) (s : State) : (delayStep ms s).resetLine = s.resetLine := by
  by_cases h : s.regs.op = .reset
  · simp [delayStep_reset ms s h]
  · simp [delayStep_other ms s h]

/-- The reset input is the platform's: no move of the block takes a sample of it. -/
theorem coreMove_resetLine {s t : State} (move : CoreMove s t) : t.resetLine = s.resetLine := by
  cases move with
  | rest | init | reset | readSample | notReady | illegal | hostRead | accept | reject | compensate => rfl
  | write c a => exact writeCommand_resetLine c a s
  | adcRead a => exact adcRead_resetLine a s
  | promRead k a => exact promRead_resetLine k a s
  | delay ms => exact delayStep_resetLine ms s

/-! ## One row -/

/-- The operation has ended: the block is idle. -/
def Ended (r : Regs) : Prop := r.busy = false ∧ r.op = .none

/-- The operation goes on from its row with these registers: at the next row. -/
def GoesOn (r r' : Regs) : Prop := r'.busy = r.busy ∧ r'.op = r.op ∧ r'.upc = r.upc + 1

theorem ended_raiseRegs (k : ErrorKind) (r : Regs) : Ended (raiseRegs k r) := ⟨rfl, rfl⟩

theorem ended_doneRegs (r : Regs) : Ended (doneRegs r) := ⟨rfl, rfl⟩

theorem writeCommand_ends_or_goesOn (c a : Byte) (s : State) :
    Ended (writeCommand c a s).regs ∨ GoesOn s.regs (writeCommand c a s).regs := by
  cases h : nextAnswer s with
  | ok b0 b1 b2 => exact .inr (by simp [writeCommand_ok c a s b0 b1 b2 h, GoesOn])
  | err e => exact .inl (by simp [writeCommand_err c a s e h, Ended])

theorem adcRead_ends_or_goesOn (a : Byte) (s : State) :
    Ended (adcRead a s).regs ∨ GoesOn s.regs (adcRead a s).regs := by
  cases h : nextAnswer s with
  | ok b0 b1 b2 => exact .inr (by simp [adcRead_ok a s b0 b1 b2 h, GoesOn])
  | err e => exact .inl (by simp [adcRead_err a s e h, Ended])

theorem promRead_ends_or_goesOn (k : Fin 8) (a : Byte) (s : State) :
    Ended (promRead k a s).regs ∨ GoesOn s.regs (promRead k a s).regs := by
  cases h : nextAnswer s with
  | ok b0 b1 b2 => exact .inr (by simp [promRead_ok k a s b0 b1 b2 h, GoesOn])
  | err e => exact .inl (by simp [promRead_err k a s e h, Ended])

theorem delayStep_ends_or_goesOn (ms : Byte) (s : State) :
    Ended (delayStep ms s).regs ∨ GoesOn s.regs (delayStep ms s).regs := by
  by_cases h : s.regs.op = .reset
  · exact .inl (by simp [delayStep_reset ms s h, Ended])
  · exact .inr (by simp [delayStep_other ms s h, GoesOn])

/-- The rows that make an event are the ones before `maxEvents`: INIT 0 to 7, RESET 0 and 1, READ_SAMPLE 0 to 5. -/
theorem upc_lt_maxEvents {p : Params} {r : Regs} {act : Action} (action : currentAction p r = .ok act)
    (event : act ≠ .crcCheck ∧ act ≠ .compensate) : r.upc.toNat < maxEvents r.op := by
  rcases currentAction_eq_ok p r act action with ⟨op, small, -⟩ | ⟨-, -, h⟩ | ⟨op, upc, -⟩ | ⟨op, upc, -⟩ |
    ⟨_, _, op, -, -, ⟨upc, -⟩ | ⟨upc, -⟩ | ⟨upc, -⟩ | ⟨upc, -⟩⟩ | ⟨op, upc | upc, -⟩ | ⟨-, -, h⟩
  case inl => simpa [op, maxEvents] using small
  case inr.inl => exact absurd h event.1
  case inr.inr.inr.inr.inr.inr => exact absurd h event.2
  all_goals simp [op, upc, maxEvents]

/-- A move of a busy block: a row without an event ends the operation, and a row with one ends it or goes on. -/
theorem coreMove_of_busy_row {s t : State} (busy : s.regs.busy = true) (move : CoreMove s t) :
    (Ended t.regs ∧ t.trace = s.trace) ∨
    (s.regs.upc.toNat < maxEvents s.regs.op ∧ (∃ ev, t.trace = s.trace ++ [ev]) ∧
      (Ended t.regs ∨ GoesOn s.regs t.regs)) := by
  cases move with
  | rest idle | init _ _ idle | reset _ idle | readSample _ _ idle | notReady _ _ idle | illegal _ _ idle
  | hostRead _ _ _ _ idle => exact absurd (busy.symm.trans idle) (by decide)
  | accept | compensate => exact .inl ⟨ended_doneRegs _, rfl⟩
  | reject => exact .inl ⟨ended_raiseRegs _ _, rfl⟩
  | write c a _ action =>
    exact .inr ⟨upc_lt_maxEvents action ⟨nofun, nofun⟩, ⟨_, writeCommand_trace c a s⟩, writeCommand_ends_or_goesOn c a s⟩
  | adcRead a _ action =>
    exact .inr ⟨upc_lt_maxEvents action ⟨nofun, nofun⟩, ⟨_, adcRead_trace a s⟩, adcRead_ends_or_goesOn a s⟩
  | promRead k a _ action =>
    exact .inr ⟨upc_lt_maxEvents action ⟨nofun, nofun⟩, ⟨_, promRead_trace k a s⟩, promRead_ends_or_goesOn k a s⟩
  | delay ms _ action =>
    exact .inr ⟨upc_lt_maxEvents action ⟨nofun, nofun⟩, ⟨_, delayStep_trace ms s⟩, delayStep_ends_or_goesOn ms s⟩

/-! ## The rows left -/

theorem maxEvents_le_eight (op : Op) : maxEvents op ≤ 8 := by
  cases op <;> decide

/-- The block comes to idle with at most `k` events and one step more than that. -/
def EndsWithin (k : Nat) (s : State) : Prop :=
  ∃ (n : Nat) (t : State) (evs : List Event), n ≤ k + 1 ∧ Host.Core.run Sys2Proof.core n s = .next t ∧
    Ended t.regs ∧ t.trace = s.trace ++ evs ∧ evs.length ≤ k

theorem endsWithin_of_ended {s t : State} {k : Nat} {evs : List Event} (first : step s = .next t) (ended : Ended t.regs)
    (trace : t.trace = s.trace ++ evs) (few : evs.length ≤ k) : EndsWithin k s :=
  ⟨1, t, evs, by omega, run_cons first (run_zero rfl), ended, trace, few⟩

theorem endsWithin_succ {s t : State} {k : Nat} {ev : Event} (first : step s = .next t)
    (trace : t.trace = s.trace ++ [ev]) (later : EndsWithin k t) : EndsWithin (k + 1) s := by
  obtain ⟨n, u, evs, steps, run, ended, traceLater, few⟩ := later
  exact ⟨n + 1, u, ev :: evs, by omega, run_cons first run, ended, by simp [traceLater, trace], by simpa using few⟩

/-- By induction on the rows left that make an event. -/
theorem endsWithin_of_rowsLeft {s : State} {k : Nat} (inv : RegsInv s.regs) (busy : s.regs.busy = true)
    (line : s.resetLine = []) (left : maxEvents s.regs.op ≤ s.regs.upc.toNat + k) : EndsWithin k s := by
  induction k generalizing s with
  | zero =>
    obtain ⟨t, move⟩ := coreMove_of_busy_regsInv inv busy
    obtain ⟨ended, trace⟩ | ⟨before, -⟩ := coreMove_of_busy_row busy move
    · exact endsWithin_of_ended (evs := []) (step_of_coreMove line move) ended (by simpa using trace) (le_refl 0)
    · omega
  | succ k ih =>
    obtain ⟨t, move⟩ := coreMove_of_busy_regsInv inv busy
    have first := step_of_coreMove line move
    obtain ⟨ended, trace⟩ | ⟨before, ⟨ev, trace⟩, ended | ⟨busy', op, upc⟩⟩ := coreMove_of_busy_row busy move
    · exact endsWithin_of_ended (evs := []) first ended (by simpa using trace) (Nat.zero_le _)
    · exact endsWithin_of_ended first ended trace (by simp)
    · have small := maxEvents_le_eight s.regs.op
      have next : t.regs.upc.toNat = s.regs.upc.toNat + 1 := upc ▸ advance_upc_toNat (by omega)
      have later : EndsWithin k t := ih (coreMove_regsInv inv move) (busy'.trans busy)
        ((coreMove_resetLine move).trans line) (by rw [op]; omega)
      exact endsWithin_succ first trace later

/-- Settles O53: from any row of an operation at most all its rows are left. -/
theorem operationsEnd : Obligations.OperationsEnd := by
  intro s inv busy line
  obtain ⟨n, t, evs, steps, run, ⟨idle, op⟩, trace, few⟩ :=
    endsWithin_of_rowsLeft inv busy line (Nat.le_add_left (maxEvents s.regs.op) _)
  exact ⟨n, t, evs, steps.trans (Nat.succ_le_succ (maxEvents_le_eight _)), run, idle, op, trace, few⟩

end Sys2Proof.Proofs
end

section
/-! The block reset (70_reset_and_hazards.md R118, R119): it comes in any state, and the state it leaves the machine in
meets both invariants. -/

namespace Sys2Proof.Proofs

open Sys2Proof Sys2Proof.Machine Sys2Proof.Laws

/-- Settles O7: the asserted sample makes the step the block reset, whatever the block was doing. -/
theorem blockResetStep : Obligations.BlockResetStep := by
  intro s later line
  have asserted : s.resetLine.head? = some true := by rw [line, List.head?_cons]
  have rest : s.resetLine.tail = later := by rw [line, List.tail_cons]
  rw [step_of_reset asserted, sampled, rest]
  rfl

/-- Settles O48: nothing has happened, and nothing runs. -/
theorem resetMeetsInvariant : Obligations.ResetMeetsInvariant :=
  ⟨regsInv_reset, (hazardInv_iff _).2 ⟨by simp [ReadsDelayed, State.reset], by simp [TemperatureAfterRead, State.reset],
    fun _ _ => rowTrace_of_not_reading fun busy => absurd busy (by decide)⟩⟩

end Sys2Proof.Proofs
end
